-- ==== Sys2Proof/Word.lean ====
section
/-! DEFINITION. The word types of the TS44: what the manual treats as bits. Quantities with a unit (angles, torques,
speeds, counts) are `Int` or `Nat`; their arithmetic stands in `Machine/Ops.lean`. -/

namespace Sys2Proof

/-- One byte of the bus or of the image. -/
abbrev Byte := BitVec 8

/-- A 16-bit field of a payload or of the image, as sent (most significant byte first, 6.5 of the scope file). -/
abbrev Half := BitVec 16

/-- A station address as four bits: 0..14 name stations, 15 is the global destination (scope, section 2). -/
abbrev Addr := BitVec 4

/-- A value of the 32-bit microsecond timestamp counter, which wraps modulo 2^32 (scope, 6.1). -/
abbrev Stamp := BitVec 32

/-- The 192-byte configuration image (R172). -/
abbrev Image := Vector Byte 192

end Sys2Proof
end

