-- ==== Sys2Proof/Syntax.lean ====
section
/-! DEFINITION. The commands of the TS44: one constructor of `Instr` per row of `spec/opcode_table.json`, in the table's
order, and the types of their operands. A row that takes a hand-off of another block carries what that block hands over;
a row that takes something from outside (a pin, a character of the line, a word of a sensor, the image) carries that. -/

namespace Sys2Proof

/-- The roster roles, codes 0..6 (scope, section 2). -/
inductive Role where
  | absent | tiltA | tiltB | steer | console | drive | service
  deriving DecidableEq, Repr

/-- The node states, codes 0..7 (R138, 10.6). -/
inductive NodeState where
  | start | listen | active | degraded | free | clamped | dormant | halted
  deriving DecidableEq, Repr

/-- The fourteen conditions, codes 1..14 in this order (R139). -/
inductive Condition where
  | configBad | overlean | haltTaken | sensorFailed | speedLost | brakeStuck | voteOutlier | bridgeFault
  | disagree | partnerAbsent | inputHeld | linkConflict | queueOverrun | overrideMismatch
  deriving DecidableEq, Repr

/-- The kinds of an override entry, codes 1..4 (R27, 10.6). -/
inductive OverrideKind where
  | hold | upright | park | limit
  deriving DecidableEq, Repr

/-- The last refusal, codes 0..4 (R32). -/
inductive RefusalReason where
  | accepted | stackFull | parkMoving | tagConflict | countZero
  deriving DecidableEq, Repr

/-- The consensus speed status, codes 0..3 (R130, R131). -/
inductive SpeedStatus where
  | valid | single | held | lost
  deriving DecidableEq, Repr

/-- The handlebar view status, codes 0..2 (R133). -/
inductive ViewStatus where
  | live | held | ramping
  deriving DecidableEq, Repr

/-- The state of a sample record, codes 0..3 (R99). -/
inductive RecordState where
  | good | held | failed | absent
  deriving DecidableEq, Repr

/-- The assigned frame kinds, 0..8 (9.9). -/
inductive FrameKind where
  | halt | override | release | rider | contrib | speed | query | clear | report
  deriving DecidableEq, Repr

/-- The new-target record the LE hands to the TSU or the SLU (R17). -/
structure TargetRecord where
  phiT : Int
  omegaT : Int
  depth : Nat
  topTag : Byte
  refusal : RefusalReason
  deriving DecidableEq, Repr

/-- The top entry as a top-change notice carries it (R36); UPRIGHT has no angle (R27). -/
structure TopView where
  tag : Byte
  kind : OverrideKind
  angle : Option Int
  deriving DecidableEq, Repr

/-- The sweep notice of the MU (R110): the completion stamp, the states of the role's three records, the wheel speed. -/
structure SweepNotice where
  stamp : Stamp
  first : RecordState
  second : RecordState
  third : RecordState
  wheelSpeed : Option Nat
  deriving DecidableEq, Repr

/-- What a QUERY or CLEAR frame is handed to the service responder with beside its fields (R126): its source, the source's
roster role, and its DEST byte. -/
structure ServiceHead where
  src : Addr
  role : Role
  dest : Byte
  deriving DecidableEq, Repr

/-- The head of a command that comes from no frame: a source that names no station, in no role, for all stations. -/
def ServiceHead.none : ServiceHead := { src := 15, role := .absent, dest := 15 }

/-- The commands. What a frame is handed with beside its fields (R126) stands last in its rows. Each constructor is one row of the opcode table; its docstring gives the row's rule. -/
inductive Instr where
  /-- FULL_RESET (R143): the levels of the straps, the brake contacts and BFLT as the reset finds them. -/
  | fullReset (ads : Addr) (bks1Closed bks2Closed bfltLow : Bool)
  /-- RESTART (R178). -/
  | restart
  /-- IMAGE_READ_COMPLETE (R172): the 192 bytes clocked in. -/
  | imageReadComplete (image : Image)
  /-- PERIOD_EXPIRY (R17). -/
  | periodExpiry
  /-- OVERRIDE_REQUEST (R28): source, its roster role, and the four fields of the payload as sent. -/
  | overrideRequest (src : Addr) (role : Role) (tag kind : Byte) (angle count : Half)
  /-- RELEASE_REQUEST (R33): source, tag, and the source's roster role. -/
  | releaseRequest (src : Addr) (tag : Byte) (role : Role := .absent)
  /-- AUTO_LOCK_DWELL_EXPIRY (R39). -/
  | autoLockDwellExpiry
  /-- SPEED_STATUS_CHANGE_LE (R40): the new consensus value and status. -/
  | speedStatusChangeLe (value : Nat) (status : SpeedStatus)
  /-- NODE_STATE_CHANGE_LE (R41): the state left and the state entered. -/
  | nodeStateChangeLe (old new : NodeState)
  /-- NEW_TARGET_ARRIVAL_TSU (R45). -/
  | newTargetArrivalTsu (r : TargetRecord)
  /-- NODE_STATE_CHANGE_TSU (R58). -/
  | nodeStateChangeTsu (old new : NodeState)
  /-- NEW_TARGET_ARRIVAL_SLU (R83). -/
  | newTargetArrivalSlu (r : TargetRecord)
  /-- NODE_STATE_CHANGE_SLU (R93). -/
  | nodeStateChangeSlu (old new : NodeState)
  /-- SWEEP_NOTICE_SLU (R96). -/
  | sweepNoticeSlu (n : SweepNotice)
  /-- SWITCH_CHANGE (R73): the two brake contacts after the change. -/
  | switchChange (bks1Closed bks2Closed : Bool)
  /-- T_BRAKE_EXPIRY (R74). -/
  | tBrakeExpiry
  /-- T_PRELOAD_EXPIRY (R75). -/
  | tPreloadExpiry
  /-- SWEEP_NOTICE_BCU (R77). -/
  | sweepNoticeBcu (n : SweepNotice)
  /-- TOP_CHANGE_NOTICE_BCU (R70). -/
  | topChangeNoticeBcu (top : Option TopView)
  /-- SPEED_STATUS_CHANGE_BCU (R70). -/
  | speedStatusChangeBcu (value : Nat) (status : SpeedStatus)
  /-- NODE_STATE_CHANGE_BCU (R70). -/
  | nodeStateChangeBcu (old new : NodeState)
  /-- SWEEP_TIMER_EXPIRY (R101). -/
  | sweepTimerExpiry
  /-- READY_EVENT (R103): the 24 bits shifted in, first bit the most significant. -/
  | readyEvent (word : BitVec 24)
  /-- READY_TIMEOUT (R103). -/
  | readyTimeout
  /-- CONVERSION_COMPLETE (R106): the converted temperature in whole degrees. -/
  | conversionComplete (temp : Int)
  /-- WHEEL_EDGE (R111). -/
  | wheelEdge
  /-- FRAME_DONE (R123). -/
  | frameDone
  /-- SWEEP_NOTICE_PVU (R110). -/
  | sweepNoticePvu (n : SweepNotice)
  /-- HANDLEBAR_RAMP_STEP (R134). -/
  | handlebarRampStep
  /-- SPEED_HOLD_EXPIRY (R131). -/
  | speedHoldExpiry
  /-- HANDLEBAR_HOLD_EXPIRY (R134). -/
  | handlebarHoldExpiry
  /-- ROW_SWEEP_EXPIRY (R121). -/
  | rowSweepExpiry
  /-- CONDITION_REPORT (R140): the condition and whether it is reported present or absent. -/
  | conditionReport (c : Condition) (present : Bool)
  /-- HALT_HANDOFF (R148): source, the two fields, and the source's roster role. -/
  | haltHandoff (src : Addr) (reason detail : Byte) (role : Role := .absent)
  /-- FRAME_NOTICE (R152): the source and the kind. -/
  | frameNotice (src : Addr) (kind : FrameKind)
  /-- WAKE_CAUSE_REPORT (R28). -/
  | wakeCauseReport
  /-- SWEEP_NOTICE_NSC (R139). -/
  | sweepNoticeNsc (n : SweepNotice)
  /-- SPEED_STATUS_CHANGE_NSC (R146). -/
  | speedStatusChangeNsc (value : Nat) (status : SpeedStatus)
  /-- VIEW_CHANGE (R133). -/
  | viewChange (status : ViewStatus)
  /-- TOP_CHANGE_NOTICE_NSC (R150). -/
  | topChangeNoticeNsc (top : Option TopView)
  /-- BFLT_CHANGE (R139): whether the input now reads low. -/
  | bfltChange (low : Bool)
  /-- PERIOD_NOTICE (R142). -/
  | periodNotice
  /-- REJOIN_TIMER_EXPIRY (R149). -/
  | rejoinTimerExpiry
  /-- DORMANT_DWELL_EXPIRY (R150). -/
  | dormantDwellExpiry
  /-- DATA_CHARACTER (R161): the byte of a complete character with tag 0. -/
  | dataCharacter (b : Byte)
  /-- OPEN_MARK (R162): the OPEN byte. -/
  | openMark (b : Byte)
  /-- RUN_MARK (R159): the low nibble, copies - 2. -/
  | runMark (n : BitVec 4)
  /-- SHUT_MARK (R163). -/
  | shutMark
  /-- UNNAMED_MARK (R158): a mark byte 0xD0..0xFE. -/
  | unnamedMark (b : Byte)
  /-- FRAMING_ERROR (R156). -/
  | framingError
  /-- BREAK (R157). -/
  | lineBreak
  /-- FRAME_TIMEOUT (R157). -/
  | frameTimeout
  /-- IDLE (R157). -/
  | idle
  /-- FRAME_SENT (R167). -/
  | frameSent
  /-- ARBITRATION_LOSS (R168). -/
  | arbitrationLoss
  /-- READBACK_MISMATCH (R169). -/
  | readbackMismatch
  /-- ABORT_BREAK_END (R167). -/
  | abortBreakEnd
  /-- QUERY_NODE_STATE (R154), item 1: the index and page bytes as received, and what the frame is handed with (R126). -/
  | queryNodeState (index page : Byte) (h : ServiceHead := .none)
  /-- QUERY_PEER_ROW (R137), item 2. -/
  | queryPeerRow (index page : Byte) (h : ServiceHead := .none)
  /-- QUERY_STACK (R43), item 3. -/
  | queryStack (index page : Byte) (h : ServiceHead := .none)
  /-- QUERY_RECORDS (R115), item 4. -/
  | queryRecords (index page : Byte) (h : ServiceHead := .none)
  /-- QUERY_IMAGE (R175), item 5. -/
  | queryImage (index page : Byte) (h : ServiceHead := .none)
  /-- QUERY_BRAKE (R80), item 6. -/
  | queryBrake (index page : Byte) (h : ServiceHead := .none)
  /-- QUERY_CONSENSUS (R137), item 7. -/
  | queryConsensus (index page : Byte) (h : ServiceHead := .none)
  /-- QUERY_UNIT (R175), item 8. -/
  | queryUnit (index page : Byte) (h : ServiceHead := .none)
  /-- QUERY_UNKNOWN_ITEM (R174): an item outside 1..8. -/
  | queryUnknownItem (item index page : Byte) (h : ServiceHead := .none)
  /-- CLEAR_LATCHES (R176), action 1. -/
  | clearLatches (h : ServiceHead := .none)
  /-- CLEAR_RESTART (R177), action 2. -/
  | clearRestart (h : ServiceHead := .none)
  /-- CLEAR_UNKNOWN_ACTION (R176): any other action value. -/
  | clearUnknownAction (action : Byte) (h : ServiceHead := .none)
  deriving DecidableEq, Repr

end Sys2Proof
end

