-- ==== Sys2Proof/Decode.lean ====
section
/-! DEFINITION. The words of the table. The opcode table of this block gives no row any bits: its commands are events, and no
word spells one (log entry 1). -/

namespace Sys2Proof

/-- The command a word spells by the table's bits: none, as no row has bits. -/
def decodeTableWord (_nbits _w : Nat) : Option Instr := none

end Sys2Proof
end

