-- ==== Sys2Proof/Config.lean ====
section
/-! DEFINITION. The fixed constants of the part (the manual's parameter tables mark them "fixed") and the free values:
constants with no body, so that nothing can be proved of the value a silent point of the manual gives. -/

namespace Sys2Proof.Config

/-- FREE VALUE: a byte of a reply that the manual gives no contents for. It is applied to the running number
`State.free`, so that two uses need not agree (log entry 4). -/
opaque freeByte : Nat → Byte

/-- FREE VALUE: a 16-bit field whose stated contents do not fit in 16 bits (log entry 5). -/
opaque freeHalf : Nat → Half

/-- FREE VALUE: the level that the other stations of the line leave on it in a bit time, true recessive. It is applied to the
running number `State.free` (log entry 18). -/
opaque otherLevel : Nat → Bool

/-- T_brake, 300 ms, in µs (R66). -/
def tBrake : Nat := 300000
/-- T_preload, 50 ms, in µs (R66). -/
def tPreload : Nat := 50000
/-- The ready limit of a sensor transaction, 40 µs (R103). -/
def tReady : Nat := 40
/-- The longest processing of one frame by the peer view, 20 µs (R123). -/
def tFrame : Nat := 20
/-- The abort break, 33 µs (R169). -/
def tAbort : Nat := 33
/-- The rejoin time, 1 s, in µs (R149). -/
def tRejoin : Nat := 1000000
/-- The row-sweep period, 30 s, in µs; also the age beyond which a record reads EMPTY (R120, R121). -/
def tRow : Nat := 30000000
/-- The dormant limit, 250 ms, in µs (R120). -/
def tDormantRow : Nat := 250000
/-- T_stopped, 500 ms, in µs (R112). -/
def tStopped : Nat := 500000
/-- The wheel-edge noise filter, 20 µs (R111). -/
def edgeFilter : Nat := 20
/-- N_rec: good reads that bring a FAILED record back to GOOD (R109). -/
def nRec : Nat := 16
/-- Sweep expiries per sweep in DORMANT (R113). -/
def dormantSweep : Nat := 16
/-- Arrivals per CONTRIB in DORMANT (R151). -/
def dormantSend : Nat := 50
/-- Period notices of a held join test before ACTIVE (R144). -/
def joinRun : Nat := 25
/-- Clear period notices before DEGRADED returns to ACTIVE (R145). -/
def clearRun : Nat := 10
/-- Periods of override mismatch before the report (R42). -/
def mismatchRun : Nat := 50
/-- Entries of the override stack (R26). -/
def stackCapacity : Nat := 4
/-- Frames of the receive queue (R164). -/
def rfqCapacity : Nat := 8
/-- Largest expanded count of a frame (R159). -/
def expandedLimit : Nat := 35
/-- Aborts of one frame before it is discarded (R169). -/
def abortLimit : Nat := 3
/-- The lean change from the entry lean that wakes a dormant node (R152). -/
def wakeLean : Int := 100
/-- The consensus and wheel speed limit, in 0.01 m/s (R112, R128). -/
def speedMax : Nat := 2500
/-- The range of the roll rate and of the rate target (R16). -/
def rateMax : Int := 30000
/-- The usable handlebar range (R8). -/
def handlebarMax : Int := 450

end Sys2Proof.Config
end

