-- ==== Sys2Proof/Machine/State.lean ====
section
/-! DEFINITION. The state of the TS44: every item the manual's state tables name (R1, R26, R44, R66, R82, R99, R117, R138,
R161, R166, R172, R177), as plain data, one structure per block; the reasons a step can stop; the state after a full
reset. -/

namespace Sys2Proof.Machine

/-- Why the machine would stop. The manual gives the part no fault that stops it (errors are conditions, R139). -/
inductive Fault where
  /-- Raised by no meaning: every command of the table has an effect in every state. Safe. -/
  | noFault
  deriving DecidableEq, Repr

/-- Why a command would have no meaning. -/
inductive Refusal where
  /-- Raised by an arm of `exec` for a command that has no meaning yet; no arm does so now. Safe. -/
  | notModelled (mnemonic : String)
  deriving DecidableEq, Repr

/-- A timer: stopped, or running with the µs it has run. -/
abbrev Timer := Option Nat

/-- The present set and the latch set: code n at bit n - 1 (R138, 10.6). -/
abbrev CondSet := BitVec 16

/-- The parameters the image holds (10.5), as the loader hands them to the units (R172). -/
structure Params where
  ownRole : Role
  p : Nat
  curve : List (Nat × Nat)
  lean : List (Nat × Nat)
  assist : List (Nat × Nat)
  kp : Nat
  kd : Nat
  tauMax : Nat
  tRated : Nat
  tauTol : Nat
  nX : Nat
  voteTol : Nat
  nVote : Nat
  kC : Nat
  nC : Nat
  tauSMax : Nat
  deltaSoft : Nat
  phiMax : Nat
  phiStop : Nat
  sMax : Nat
  aMax : Nat
  vFl : Nat
  vFh : Nat
  vStand : Nat
  vUnlock : Nat
  vFree : Nat
  vCouple : Nat
  tStand : Nat
  hV : Nat
  hDelta : Nat
  rDelta : Nat
  fresh : Nat
  stale : Nat
  tJoin : Nat
  tDormant : Nat
  td1 : Int
  td2 : Int
  nHold : Nat
  pulseWired : Bool
  teeth : Nat
  circ : Nat
  spdOffset : Nat
  spdSigned : Bool
  spdWidth : Nat
  spdMult : Int
  spdShift : Nat
  spdBias : Int
  valPresent : Bool
  valSense : Bool
  valOffset : Nat
  wake : Nat
  tolPark : Nat
  omegaPark : Nat
  deriving DecidableEq, Repr

/-- DESIGN CHOICE (log entry 6), unsafe: before an image has been loaded no unit that reads a parameter runs; the fields
hold zeros and no role. -/
def Params.unloaded : Params :=
  { ownRole := .absent, p := 0, curve := [], lean := [], assist := [], kp := 0, kd := 0, tauMax := 0, tRated := 0,
    tauTol := 0, nX := 0, voteTol := 0, nVote := 0, kC := 0, nC := 0, tauSMax := 0, deltaSoft := 0, phiMax := 0,
    phiStop := 0, sMax := 0, aMax := 0, vFl := 0, vFh := 0, vStand := 0, vUnlock := 0, vFree := 0, vCouple := 0,
    tStand := 0, hV := 0, hDelta := 0, rDelta := 0, fresh := 0, stale := 0, tJoin := 0, tDormant := 0, td1 := 0, td2 := 0,
    nHold := 0, pulseWired := false, teeth := 0, circ := 0, spdOffset := 0, spdSigned := false, spdWidth := 0,
    spdMult := 0, spdShift := 0, spdBias := 0, valPresent := false, valSense := false, valOffset := 0, wake := 0,
    tolPark := 0, omegaPark := 0 }

/-- The levels of the input pins that hold a level: the straps, the two brake contacts (a contact reads closed when its
input is low, R68) and BFLT (active low). -/
structure Pins where
  ads : Addr
  bks1Closed : Bool
  bks2Closed : Bool
  bfltLow : Bool
  deriving DecidableEq, Repr

/-- The image read state of the CL during START and its outcome (R172). -/
inductive LoadPhase where
  | reading | good | bad
  deriving DecidableEq, Repr

/-- The configuration loader. -/
structure Cl where
  phase : LoadPhase
  ownAddr : Addr
  image : Option Image
  deriving DecidableEq, Repr

/-- The count of an override entry: finite, or FOREVER with its held count (R27). -/
inductive Count where
  | finite (n : Nat)
  | forever (held : Nat)
  deriving DecidableEq, Repr

/-- An entry of the override stack (R27). `origin` is a station address, or none for INTERNAL; UPRIGHT has no angle. -/
structure Entry where
  tag : Byte
  kind : OverrideKind
  angle : Option Int
  count : Count
  origin : Option Addr
  pending : Bool
  deriving DecidableEq, Repr

/-- The consensus speed as the latest speed-status change that a unit has taken gave it (R132): the LE's and the NSC's copies,
where R38 and R153 let the order decide in which the unit takes the change and its other events (log entries 9 and 10). -/
structure SpeedCopy where
  value : Nat
  status : SpeedStatus
  deriving DecidableEq, Repr

/-- The lean engine (R1, R26). `speed` is its copy of the consensus speed. -/
structure Le where
  phiT : Int
  omegaT : Int
  prev : Int
  lastRun : Option NodeState
  overCount : Nat
  overReported : Bool
  countedStamp : Option Stamp
  periodTimer : Timer
  stack : List Entry
  lastRefusal : RefusalReason
  dwell : Timer
  mismatch : Nat
  speed : SpeedCopy
  deriving DecidableEq, Repr

/-- The join ramp (R49). -/
inductive JoinRamp where
  | idle
  | running (stamp : Stamp)
  | complete
  deriving DecidableEq, Repr

/-- The torque share unit (R44). -/
structure Tsu where
  tauD : Int
  wTh : Nat
  wJoin : Nat
  w : Nat
  wP : Nat
  limit : Int
  share : Int
  saturated : Bool
  factor : Nat
  tauO : Int
  ramp : JoinRamp
  disagree : Bool
  disagreeRun : Nat
  agreeRun : Nat
  voteRun : Nat
  outlier : Bool
  partnerAbsent : Bool
  deriving DecidableEq, Repr

/-- The steer law unit (R82). -/
structure Slu where
  gain : Int
  tauA : Int
  runA : Nat
  runB : Nat
  phiTilt : Option Int
  coupling : Bool
  tauC : Int
  tauS : Int
  saturated : Bool
  softStop : Bool
  voteRun : Nat
  outlier : Bool
  deriving DecidableEq, Repr

/-- The brake states, codes 0..6 (R67). -/
inductive BrakeState where
  | released | engaging | engaged | preload | releasing | heldOff | stuck
  deriving DecidableEq, Repr

/-- The decoded brake switch, codes 0..3 (R68). -/
inductive Switch where
  | engaged | released | between | invalid
  deriving DecidableEq, Repr

/-- What the brake timer runs toward (R66). -/
inductive BrakeLimit where
  | brake | preload
  deriving DecidableEq, Repr

/-- The brake control unit (R66). `driver` and `demand`: true is ON. -/
structure Bcu where
  state : BrakeState
  driver : Bool
  switch : Switch
  demand : Bool
  timer : Option (BrakeLimit × Nat)
  invalidRun : Nat
  agreeRun : Nat
  topCopy : Option (OverrideKind × Option Int)
  deriving DecidableEq, Repr

/-- The last miss cause, codes 0..4 (R99). -/
inductive MissCause where
  | none | timeout | check | status | range
  deriving DecidableEq, Repr

/-- A sample record (R99). -/
structure Sample where
  state : RecordState
  value : Option Int
  lastGood : Option Int
  stamp : Stamp
  missRun : Nat
  goodRun : Nat
  lastMiss : MissCause
  deriving DecidableEq, Repr

/-- The five measurement channels (R100). -/
structure Records where
  shaft : Sample
  rate : Sample
  angle : Sample
  torque : Sample
  temp : Sample
  deriving DecidableEq, Repr

/-- The result of one transaction: `cause = .none` is a good read; the value is absent after a ready timeout (R103). -/
structure Reading where
  cause : MissCause
  value : Option Int
  deriving DecidableEq, Repr

/-- The sweep state (R99). -/
inductive Sweep where
  | idle | running1 | running2 | running3
  deriving DecidableEq, Repr

/-- The measurement unit (R99). -/
structure Mu where
  records : Records
  sweepTimer : Timer
  sweep : Sweep
  readyTimer : Timer
  buffer : List Reading
  dormantCount : Nat
  edgeCount : Nat
  t0 : Stamp
  t1 : Stamp
  wheelSpeed : Option Nat
  deriving DecidableEq, Repr

/-- The fields of a CONTRIB payload, as sent (10.6). -/
structure Contrib where
  role : BitVec 4
  nodeState : BitVec 4
  primary : Byte
  present : Half
  phiT : Half
  phiM : Half
  tauD : Half
  share : Half
  w : Byte
  saturated : Bool
  driver : Bool
  switch : BitVec 2
  speedStatus : BitVec 2
  dormantReady : Bool
  ramping : Bool
  pulse : Half
  depth : BitVec 4
  refusal : BitVec 4
  topTag : Byte
  deriving DecidableEq, Repr

/-- The fields of a RIDER payload, as sent (10.6). -/
structure Rider where
  delta : Half
  tauH : Half
  angleState : BitVec 4
  torqueState : BitVec 4
  nodeState : Byte
  deriving DecidableEq, Repr

/-- A row of the peer table: up to three records, each with its arrival stamp (R119). -/
structure Row where
  rider : Option (Rider × Stamp)
  contrib : Option (Contrib × Stamp)
  speed : Option (Nat × Stamp)
  deriving DecidableEq, Repr

/-- A frame record of the receive queue (R163). -/
structure RxFrame where
  src : Addr
  kind : FrameKind
  dest : Option Byte
  payload : List Byte
  stamp : Stamp
  deriving DecidableEq, Repr

/-- Which candidates the latest re-evaluation used, in the order of QUERY item 7 (R137): own pulse, DRIVE, two peers. -/
structure UsedFlags where
  own : Bool
  drive : Bool
  peer1 : Bool
  peer2 : Bool
  deriving DecidableEq, Repr

/-- The peer view unit (R117). `processing`: the frame taken, with the µs it has been processed. -/
structure Pvu where
  roster : Vector Role 15
  table : Vector Row 15
  processing : Option (RxFrame × Nat)
  speed : Nat
  speedStatus : SpeedStatus
  speedHold : Timer
  used : UsedFlags
  view : Int
  viewStatus : ViewStatus
  viewHold : Timer
  rowSweep : Timer
  deriving DecidableEq, Repr

/-- The last HALT taken (R138). -/
structure HaltRecord where
  src : Addr
  reason : Byte
  detail : Byte
  deriving DecidableEq, Repr

/-- The node state controller (R138). `flt`: true is asserted. `speed` is its copy of the consensus speed. -/
structure Nsc where
  node : NodeState
  present : CondSet
  latches : CondSet
  lastHalt : Option HaltRecord
  joinCount : Nat
  clearRun : Nat
  rejoin : Timer
  dormantDwell : Timer
  sendCount : Nat
  entryLean : Option Int
  topCopy : Option OverrideKind
  flt : Bool
  speed : SpeedCopy
  deriving DecidableEq, Repr

/-- The assembler of the receiver (R161). `bytes` are the expanded bytes so far, DEST first where the kind has one; the
expanded count is their number. `run` is the pending RUN count. -/
structure Assembler where
  src : Addr
  kind : FrameKind
  bytes : List Byte
  crc : BitVec 16
  run : Option Nat
  deriving DecidableEq, Repr

/-- The receiver (R161); off in START and HALTED (R170). -/
inductive Receiver where
  | off
  | hunt
  | waitOpen
  | inFrame (a : Assembler)
  | skip
  deriving DecidableEq, Repr

/-- The transmitter states (R167); off in START and HALTED (R170). -/
inductive TxState where
  | off | idle | waitGap | sending | aborting
  deriving DecidableEq, Repr

/-- A frame waiting in a transmit slot with its abort count (R166). -/
structure Slot where
  payload : List Byte
  aborts : Nat
  deriving DecidableEq, Repr

/-- The four transmit slots (R166). -/
structure Slots where
  halt : Option Slot
  rider : Option Slot
  contrib : Option Slot
  report : Option Slot
  deriving DecidableEq, Repr

/-- A character of the line (R156): a data character or a mark, with its byte. -/
inductive LineChar where
  | data (b : Byte)
  | mark (b : Byte)
  deriving DecidableEq, Repr

/-- The frame in flight: its kind, payload, abort count, the characters it is sent as (R166, R167), and how many of their bit
times have begun (R155). -/
structure InFlight where
  kind : FrameKind
  payload : List Byte
  aborts : Nat
  chars : List LineChar
  begun : Nat
  deriving DecidableEq, Repr

/-- The bus interface: the level read on SBS last, true recessive (R155), receiver, receive queue, transmitter, slots.
`abortTime` runs while a break is driven (R169). -/
structure Bi where
  sbs : Bool
  rx : Receiver
  rfq : List RxFrame
  tx : TxState
  inFlight : Option InFlight
  abortTime : Timer
  slots : Slots
  deriving DecidableEq, Repr

/-- The service responder (R177). Its pending REPORT contents are the REPORT slot's. -/
structure Sr where
  restartPending : Bool
  deriving DecidableEq, Repr

/-- The drive output of the role (R58, R92): the enable, and the duty in thousandths or low. -/
structure Drive where
  dren : Bool
  duty : Option Int
  deriving DecidableEq, Repr

/-- The state of one TS44. The last three fields are the model's own (log entries 1, 2, 4). -/
structure State where
  clock : Stamp
  pins : Pins
  drive : Drive
  cl : Cl
  prm : Params
  le : Le
  tsu : Tsu
  slu : Slu
  bcu : Bcu
  mu : Mu
  pvu : Pvu
  nsc : Nsc
  bi : Bi
  sr : Sr
  /-- Commands waiting, first in first out. -/
  pending : List Instr
  /-- Hand-offs between blocks that have not been taken yet, oldest first. -/
  handed : List Instr
  /-- The running number at which free values are taken. -/
  free : Nat
  deriving DecidableEq, Repr

/-- A sample record after a reset (R99). -/
def Sample.reset : Sample :=
  { state := .held, value := none, lastGood := none, stamp := 0, missRun := 0, goodRun := 0, lastMiss := .none }

/-- The consensus speed after a reset, 0 and LOST (R117), which the copies begin with. -/
def SpeedCopy.reset : SpeedCopy := { value := 0, status := .lost }

/-- A row with every record absent (R117). -/
def Row.empty : Row := { rider := none, contrib := none, speed := none }

/-- The LE after a reset (R1, R26). -/
def Le.reset : Le :=
  { phiT := 0, omegaT := 0, prev := 0, lastRun := none, overCount := 0, overReported := false, countedStamp := none,
    periodTimer := none, stack := [], lastRefusal := .accepted, dwell := none, mismatch := 0, speed := .reset }

/-- The TSU after a reset (R44). -/
def Tsu.reset : Tsu :=
  { tauD := 0, wTh := 0, wJoin := 0, w := 0, wP := 0, limit := 0, share := 0, saturated := false, factor := 0, tauO := 0,
    ramp := .idle, disagree := false, disagreeRun := 0, agreeRun := 0, voteRun := 0, outlier := false,
    partnerAbsent := false }

/-- The SLU after a reset (R82). -/
def Slu.reset : Slu :=
  { gain := 0, tauA := 0, runA := 0, runB := 0, phiTilt := none, coupling := false, tauC := 0, tauS := 0,
    saturated := false, softStop := false, voteRun := 0, outlier := false }

/-- The MU after a reset (R99). -/
def Mu.reset : Mu :=
  { records := ⟨.reset, .reset, .reset, .reset, .reset⟩, sweepTimer := none, sweep := .idle, readyTimer := none,
    buffer := [], dormantCount := 0, edgeCount := 0, t0 := 0, t1 := 0, wheelSpeed := none }

/-- The PVU after a reset (R117). -/
def Pvu.reset : Pvu :=
  { roster := Vector.replicate 15 .absent, table := Vector.replicate 15 .empty, processing := none, speed := 0,
    speedStatus := .lost, speedHold := none, used := ⟨false, false, false, false⟩, view := 0, viewStatus := .ramping,
    viewHold := none, rowSweep := none }

/-- The NSC after a full reset (R138). -/
def Nsc.reset : Nsc :=
  { node := .start, present := 0, latches := 0, lastHalt := none, joinCount := 0, clearRun := 0, rejoin := none,
    dormantDwell := none, sendCount := 0, entryLean := none, topCopy := none, flt := false, speed := .reset }

/-- The BI after a reset: everything emptied and switched off for START (R170). SBS is not read there (R155); the recessive
level held for it is a DESIGN CHOICE (log entry 6). -/
def Bi.reset : Bi :=
  { sbs := true, rx := .off, rfq := [], tx := .off, inFlight := none, abortTime := none, slots := ⟨none, none, none, none⟩ }

/-- The BCU after a reset that finds the switch ENGAGED (R79). -/
def Bcu.resetEngaged : Bcu :=
  { state := .engaged, driver := false, switch := .engaged, demand := false, timer := none, invalidRun := 0,
    agreeRun := 0, topCopy := none }

/-- The input levels at `State.reset`. DESIGN CHOICE (log entry 6), unsafe: the manual leaves them to the board. Straps 0;
BKS1 closed and BKS2 open, as the spring closes the brake whenever neither coil is energised; no bridge fault. -/
def Pins.atReset : Pins := { ads := 0, bks1Closed := true, bks2Closed := false, bfltLow := false }

/-- The machine right after a full reset: START with the image read begun (R143, R172), every item at the value its rule
gives. -/
def State.reset : State :=
  { clock := 0, pins := .atReset, drive := { dren := false, duty := none },
    cl := { phase := .reading, ownAddr := Pins.atReset.ads, image := none }, prm := .unloaded, le := .reset, tsu := .reset,
    slu := .reset, bcu := .resetEngaged, mu := .reset, pvu := .reset, nsc := .reset, bi := .reset,
    sr := { restartPending := false }, pending := [], handed := [], free := 0 }

end Sys2Proof.Machine
end

