-- ==== Sys2Proof/Machine/Flags.lean ====
section
/-! DEFINITION. The condition flags: their codes and classes (R139), the present set and the latch set as 16-bit sets, the
primary code (R140), and the classes of node states and roles the rules speak of. -/

namespace Sys2Proof.Machine

/-- The code of a condition, 1..14 (R139). -/
def condCode : Condition → Nat
  | .configBad => 1 | .overlean => 2 | .haltTaken => 3 | .sensorFailed => 4 | .speedLost => 5 | .brakeStuck => 6
  | .voteOutlier => 7 | .bridgeFault => 8 | .disagree => 9 | .partnerAbsent => 10 | .inputHeld => 11
  | .linkConflict => 12 | .queueOverrun => 13 | .overrideMismatch => 14

/-- The conditions in the order of their codes (R139). -/
def allConditions : List Condition :=
  [.configBad, .overlean, .haltTaken, .sensorFailed, .speedLost, .brakeStuck, .voteOutlier, .bridgeFault, .disagree,
   .partnerAbsent, .inputHeld, .linkConflict, .queueOverrun, .overrideMismatch]

/-- The class serious of R139. -/
def isSerious : Condition → Bool
  | .overlean | .haltTaken | .sensorFailed | .speedLost | .voteOutlier | .bridgeFault => true
  | _ => false

/-- The class degrading of R139. -/
def isDegrading : Condition → Bool
  | .disagree | .partnerAbsent | .inputHeld => true
  | _ => false

/-- The conditions that R139 marks latched. -/
def isLatched : Condition → Bool
  | .overlean | .haltTaken | .sensorFailed | .brakeStuck | .voteOutlier | .bridgeFault | .linkConflict
  | .queueOverrun => true
  | _ => false

/-- The event conditions, present for as long as their latch is set (R140). -/
def isEvent : Condition → Bool
  | .haltTaken | .linkConflict | .queueOverrun => true
  | _ => false

/-- Whether a condition stands in a set: code n at bit n - 1 (10.6). -/
def CondSet.has (x : CondSet) (c : Condition) : Bool := x.getLsbD (condCode c - 1)

/-- A set with one condition put in or taken out. -/
def CondSet.put (x : CondSet) (c : Condition) (b : Bool) : CondSet :=
  if b then x ||| (1#16 <<< (condCode c - 1)) else x &&& ~~~(1#16 <<< (condCode c - 1))

/-- The set of the conditions a predicate holds of. -/
def CondSet.ofPred (f : Condition → Bool) : CondSet := allConditions.foldl (fun x c => CondSet.put x c (f c)) 0

/-- The primary code: the lowest code in the set, or 0 (R140). -/
def CondSet.primary (x : CondSet) : Nat := ((allConditions.find? (fun c => CondSet.has x c)).map condCode).getD 0

/-- Whether some condition of a class stands in a set. -/
def CondSet.anyOf (x : CondSet) (f : Condition → Bool) : Bool := allConditions.any (fun c => f c && CondSet.has x c)

end Sys2Proof.Machine

namespace Sys2Proof

/-- Running: ACTIVE or DEGRADED (scope, section 7). -/
def NodeState.running : NodeState → Bool
  | .active | .degraded => true
  | _ => false

/-- The states from LISTEN to DORMANT, in which the LE, MU, PVU, BI and SR run (R18, R101, R117, R170, R174). -/
def NodeState.live : NodeState → Bool
  | .start | .halted => false
  | _ => true

/-- The tracking states of R19. -/
def NodeState.tracking : NodeState → Bool
  | .listen | .free | .clamped => true
  | _ => false

/-- The states in which FLT is asserted (R142). -/
def NodeState.faulted : NodeState → Bool
  | .free | .clamped | .halted => true
  | _ => false

/-- A tilt role (scope, section 2). -/
def Role.isTilt : Role → Bool
  | .tiltA | .tiltB => true
  | _ => false

/-- A TS44 role (scope, section 2). -/
def Role.isTs44 : Role → Bool
  | .tiltA | .tiltB | .steer => true
  | _ => false

/-- The periodic kinds (R164). -/
def FrameKind.periodic : FrameKind → Bool
  | .rider | .contrib | .speed => true
  | _ => false

/-- The kinds that carry a DEST byte (R159). -/
def FrameKind.hasDest : FrameKind → Bool
  | .query | .clear => true
  | _ => false

/-- VALID or SINGLE. -/
def SpeedStatus.heard : SpeedStatus → Bool
  | .valid | .single => true
  | _ => false

end Sys2Proof
end

