-- ==== Sys2Proof/Machine/Ops.lean ====
section
/-! DEFINITION. The operations the blocks share: rounding and limits (scope 6.2, R5), the interpolation primitive (R6), the
CRC (R160), timers, hand-offs between blocks, the roster and the peer table with their freshness (R118 to R120), and the
measured lean (R4). -/

namespace Sys2Proof.Machine

/-- What a command answers. -/
abbrev Out := Host.Outcome State Fault Refusal

/-! ## Arithmetic: all products are exact, on unbounded integers (R5) -/

/-- Clamped to ±m (scope 6.2). -/
def clampMag (m x : Int) : Int := max (-m) (min m x)

/-- The quotient rounded to nearest, ties away from zero (scope 6.2), for a positive divisor. -/
def nearestDiv (a b : Int) : Int :=
  if 0 ≤ a then (2 * a + b) / (2 * b) else -((2 * (-a) + b) / (2 * b))

/-- The mean, floor, of one or two values; no value for none (R4, R87). -/
def meanFloor : List Int → Option Int
  | [] => none
  | [a] => some a
  | a :: b :: _ => some ((a + b).fdiv 2)

/-- The interpolation of R6 from a point onward. -/
def interpFrom (x : Int) : Int × Int → List (Int × Int) → Int
  | p, [] => p.2
  | p, q :: rest =>
    if x ≤ p.1 then p.2
    else if x < q.1 then p.2 + ((q.2 - p.2) * (x - p.1)).tdiv (q.1 - p.1)
    else interpFrom x q rest

/-- A table of the image as signed points (R6). -/
def signedPoints (t : List (Nat × Nat)) : List (Int × Int) := t.map (fun q => ((q.1 : Int), (q.2 : Int)))

/-- The interpolation primitive of R6. A table has at least two points (R7); the empty one never arises. -/
def interp (t : List (Nat × Nat)) (x : Int) : Int :=
  match signedPoints t with
  | [] => 0
  | p :: rest => interpFrom x p rest

/-! ## The CRC (R160) -/

/-- One bit entered into the register: combined with its most significant bit, then shift and combine with 0x1021. -/
def crcBit (r : BitVec 16) (b : Bool) : BitVec 16 :=
  if r.getLsbD 15 != b then (r <<< 1) ^^^ 0x1021#16 else r <<< 1

/-- One byte entered, most significant bit first. -/
def crcByte (r : BitVec 16) (b : Byte) : BitVec 16 :=
  [7, 6, 5, 4, 3, 2, 1, 0].foldl (fun r i => crcBit r (b.getLsbD i)) r

/-- Bytes entered in order. -/
def crcBytes (r : BitVec 16) (l : List Byte) : BitVec 16 := l.foldl crcByte r

/-- The initial register, 0xFFFF. -/
def crcInit : BitVec 16 := 0xFFFF#16

/-! ## Timers -/

/-- A timer that is to run: it runs on when it runs, and starts from 0 when it does not; stopped, its time discarded,
when it is not to run (R39, R149, R150). -/
def Timer.keep (t : Timer) (run : Bool) : Timer := if run then some (t.getD 0) else none

/-- Whether a timer has run its limit, in µs: a timer's expiry is that moment, and a timer that has been stopped or started
again meanwhile has none (R66, R81, log entry 7). -/
def Timer.atLimit (t : Timer) (limit : Nat) : Bool :=
  match t with
  | some n => decide (limit ≤ n)
  | none => false

/-- The ms a timer shows in a reply: truncated, saturating at 65535, 0 when stopped (R154, R137, R175). -/
def msShown (us : Nat) : Nat := min (us / 1000) 65535

/-! ## Hand-offs (log entry 2) -/

/-- Hand events on to other blocks, behind those that wait. -/
def State.hand (s : State) (l : List Instr) : State := { s with handed := s.handed ++ l }

/-- Take a handed event: the oldest hand-off equal to it no longer waits. -/
def State.taken (s : State) (i : Instr) : State := { s with handed := s.handed.erase i }

/-- The node-state changes, left and entered, that wait among the hand-offs for the unit whose change event `f` reads, oldest
first. -/
def State.waitingChanges (s : State) (f : Instr → Option (NodeState × NodeState)) : List (NodeState × NodeState) :=
  s.handed.filterMap f

/-! ## Role, roster and peer table -/

/-- The node's own role; `.absent` before an image has been loaded. -/
def State.role (s : State) : Role := s.prm.ownRole

/-- A BCU runs in every role but STEER, and while the role is not known (04, opening; R79; log entry 21). -/
def State.hasBcu (s : State) : Bool := s.role != .steer

/-- The addresses of stations, 0..14. -/
def addresses : List Nat := [0, 1, 2, 3, 4, 5, 6, 7, 8, 9, 10, 11, 12, 13, 14]

/-- The roster role of an address; 15 holds none (R118, R162). -/
def State.roleOf (s : State) (a : Nat) : Role := (s.pvu.roster[a]?).getD .absent

/-- The address that holds a role, if any (R118). -/
def State.addrOf (s : State) (r : Role) : Option Nat := addresses.find? (fun a => s.roleOf a == r)

/-- The other tilt role (scope, section 2). -/
def partnerRole : Role → Role
  | .tiltA => .tiltB
  | _ => .tiltA

/-- The partner's address, for a tilt role whose roster holds one (R118). -/
def State.partner (s : State) : Option Nat := if s.role.isTilt then s.addrOf (partnerRole s.role) else none

/-- The TS44 peers in address order: the other addresses of a TS44 role (R118). -/
def State.peers (s : State) : List Nat :=
  addresses.filter (fun a => a != s.cl.ownAddr.toNat && (s.roleOf a).isTs44)

/-- The row of an address. -/
def State.row (s : State) (a : Nat) : Row := (s.pvu.table[a]?).getD .empty

/-- The freshness classes, codes 0..3 (R120). -/
inductive Freshness where
  | empty | fresh | aging | stale
  deriving DecidableEq, Repr

/-- FRESH or AGING. -/
def Freshness.heard : Freshness → Bool
  | .fresh | .aging => true
  | _ => false

/-- An age: the counter now minus the stamp, modulo 2^32 (R120). -/
def age (now stamp : Stamp) : Nat := (now - stamp).toNat

/-- The freshness of a present record by its age, with S_row in µs (R120). -/
def freshnessAt (p : Params) (now stamp : Stamp) (sRow : Nat) : Freshness :=
  if age now stamp > Config.tRow then .empty
  else if age now stamp ≤ p.fresh * 1000 then .fresh
  else if age now stamp ≤ sRow then .aging
  else .stale

/-- S_row in µs: S, or the dormant limit while the row's CONTRIB record is not EMPTY and reports DORMANT (R120). -/
def sRowOf (p : Params) (now : Stamp) (r : Row) : Nat :=
  match r.contrib with
  | some (c, st) => if age now st ≤ Config.tRow ∧ c.nodeState = 6 then Config.tDormantRow else p.stale * 1000
  | none => p.stale * 1000

/-- S_row of the row of an address, now. -/
def State.sRow (s : State) (a : Nat) : Nat := sRowOf s.prm s.clock (s.row a)

/-- The freshness of a record of the row of an address: EMPTY when it is absent (R120). -/
def State.freshOf {α : Type} (s : State) (a : Nat) (rec : Option (α × Stamp)) : Freshness :=
  match rec with
  | some (_, st) => freshnessAt s.prm s.clock st (s.sRow a)
  | none => .empty

/-- The CONTRIB record of an address with its freshness now. -/
def State.contribAt (s : State) (a : Nat) : Option (Contrib × Freshness) :=
  (s.row a).contrib.map (fun q => (q.1, s.freshOf a (s.row a).contrib))

/-- A CONTRIB that reports ACTIVE or DEGRADED. -/
def Contrib.running (c : Contrib) : Bool := c.nodeState == 2 || c.nodeState == 3

/-- The CONTRIB record of the station that holds a role. -/
def State.contribOf (s : State) (r : Role) : Option (Contrib × Freshness) := (s.addrOf r).bind s.contribAt

/-- The partner's CONTRIB record. -/
def State.partnerContrib (s : State) : Option (Contrib × Freshness) := s.partner.bind s.contribAt

/-- The CONTRIB records of the tilt stations, TILT-A first, that pass a test. -/
def State.tiltRows (s : State) (f : Contrib → Freshness → Bool) : List Contrib :=
  [Role.tiltA, Role.tiltB].filterMap (fun r => (s.contribOf r).bind (fun q => if f q.1 q.2 then some q.1 else none))

/-- Replace the row of an address (R119). -/
def State.setRow (s : State) (a : Nat) (r : Row) : State :=
  { s with pvu := { s.pvu with table := s.pvu.table.setIfInBounds a r } }

/-! ## The measured lean (R4) -/

/-- φ_m of the LE: the shaft record's last good value in a tilt role; in the STEER role the mean, floor, of the φ_m fields
of the FRESH or AGING tilt rows (R4). -/
def State.measured (s : State) : Option Int :=
  if s.role = .steer then meanFloor ((s.tiltRows (fun _ f => f.heard)).map (fun c => c.phiM.toInt))
  else s.mu.records.shaft.lastGood

/-- φ_m clamped: limited to ±φ_max, 0 where φ_m has no value (R4). -/
def State.measuredClamped (s : State) : Int := clampMag s.prm.phiMax (s.measured.getD 0)

/-! ## What is handed to whom -/

/-- A top-change notice, to the BCU and the NSC (R36). -/
def State.topNotices (s : State) (top : Option TopView) : List Instr :=
  (if s.hasBcu then [.topChangeNoticeBcu top] else []) ++ [.topChangeNoticeNsc top]

/-- A node-state change, to the LE, to the TSU or the SLU, and to the BCU (R142). -/
def State.nodeNotices (s : State) (old new : NodeState) : List Instr :=
  [.nodeStateChangeLe old new] ++ (if s.role.isTilt then [.nodeStateChangeTsu old new] else []) ++
    (if s.role = .steer then [.nodeStateChangeSlu old new] else []) ++
    (if s.hasBcu then [.nodeStateChangeBcu old new] else [])

/-- A speed-status change, to the LE, the BCU in a tilt role, and the NSC (R132). -/
def State.speedNotices (s : State) (v : Nat) (st : SpeedStatus) : List Instr :=
  [.speedStatusChangeLe v st] ++ (if s.hasBcu then [.speedStatusChangeBcu v st] else []) ++
    [.speedStatusChangeNsc v st]

/-- A sweep notice, to the PVU, the NSC, and the BCU or the SLU (R110). -/
def State.sweepNotices (s : State) (n : SweepNotice) : List Instr :=
  [.sweepNoticePvu n, .sweepNoticeNsc n] ++ (if s.role = .steer then [.sweepNoticeSlu n] else [.sweepNoticeBcu n])

/-! ## The two needed records of the role (R100) -/

/-- The record of channel 1 of the role. -/
def State.channel1 (s : State) : Sample := if s.role = .steer then s.mu.records.angle else s.mu.records.shaft
/-- The record of channel 2 of the role. -/
def State.channel2 (s : State) : Sample := if s.role = .steer then s.mu.records.torque else s.mu.records.rate

end Sys2Proof.Machine
end

