-- ==== Sys2Proof/Machine/Operands.lean ====
section
/-! DEFINITION. The layouts of 10.6: the codes of the named values, two-byte fields (most significant byte first), the
CONTRIB and RIDER payloads in both directions, the frame kinds, the OPEN byte, and the word of a sensor (R105). -/

namespace Sys2Proof.Machine

/-! ## Codes (10.6) -/

/-- Role codes 0..6. -/
def roleCode : Role → Nat
  | .absent => 0 | .tiltA => 1 | .tiltB => 2 | .steer => 3 | .console => 4 | .drive => 5 | .service => 6

/-- The role of a code; a code above 6 names none (an image that holds one fails its check, R173). -/
def roleOfCode : Nat → Role
  | 1 => .tiltA | 2 => .tiltB | 3 => .steer | 4 => .console | 5 => .drive | 6 => .service | _ => .absent

/-- Node state codes 0..7. -/
def nodeCode : NodeState → Nat
  | .start => 0 | .listen => 1 | .active => 2 | .degraded => 3 | .free => 4 | .clamped => 5 | .dormant => 6 | .halted => 7

/-- Override kind codes 1..4. -/
def overrideCode : OverrideKind → Nat
  | .hold => 1 | .upright => 2 | .park => 3 | .limit => 4

/-- The override kind a kind byte names, if any (R28). -/
def overrideOfByte (b : Byte) : Option OverrideKind :=
  match b.toNat with
  | 1 => some .hold | 2 => some .upright | 3 => some .park | 4 => some .limit | _ => none

/-- Refusal codes 0..4 (R32). -/
def refusalCode : RefusalReason → Nat
  | .accepted => 0 | .stackFull => 1 | .parkMoving => 2 | .tagConflict => 3 | .countZero => 4

/-- Speed status codes 0..3. -/
def speedCode : SpeedStatus → Nat
  | .valid => 0 | .single => 1 | .held => 2 | .lost => 3

/-- Handlebar view status codes 0..2. -/
def viewCode : ViewStatus → Nat
  | .live => 0 | .held => 1 | .ramping => 2

/-- Record state codes 0..3. -/
def recordCode : RecordState → Nat
  | .good => 0 | .held => 1 | .failed => 2 | .absent => 3

/-- Miss cause codes 0..4. -/
def missCode : MissCause → Nat
  | .none => 0 | .timeout => 1 | .check => 2 | .status => 3 | .range => 4

/-- Freshness codes 0..3. -/
def freshCode : Freshness → Nat
  | .empty => 0 | .fresh => 1 | .aging => 2 | .stale => 3

/-- Brake state codes 0..6. -/
def brakeCode : BrakeState → Nat
  | .released => 0 | .engaging => 1 | .engaged => 2 | .preload => 3 | .releasing => 4 | .heldOff => 5 | .stuck => 6

/-- Switch codes 0..3. -/
def switchCode : Switch → Nat
  | .engaged => 0 | .released => 1 | .between => 2 | .invalid => 3

/-! ## Frame kinds and the OPEN byte (R158, R162) -/

/-- Kind numbers 0..8. -/
def kindCode : FrameKind → Nat
  | .halt => 0 | .override => 1 | .release => 2 | .rider => 3 | .contrib => 4 | .speed => 5 | .query => 6 | .clear => 7
  | .report => 8

/-- The kind of a high nibble; 9..11 are unassigned and the rest name no OPEN (R158). -/
def kindOfNat : Nat → Option FrameKind
  | 0 => some .halt | 1 => some .override | 2 => some .release | 3 => some .rider | 4 => some .contrib | 5 => some .speed
  | 6 => some .query | 7 => some .clear | 8 => some .report | _ => none

/-- The OPEN byte: kind in the high nibble, source in the low one (R158). -/
def openByte (k : FrameKind) (src : Addr) : Byte := BitVec.ofNat 4 (kindCode k) ++ src

/-- The kind nibble of an OPEN byte. -/
def openKind (b : Byte) : Nat := (b.extractLsb' 4 4).toNat

/-- The source of an OPEN byte. -/
def openSrc (b : Byte) : Addr := b.extractLsb' 0 4

/-! ## Two-byte fields -/

/-- The bytes of a 16-bit field, most significant first. -/
def halfBytes (h : Half) : List Byte := [h.extractLsb' 8 8, h.extractLsb' 0 8]

/-- A 16-bit field from its bytes, most significant first. -/
def halfOf (hi lo : Byte) : Half := hi ++ lo

/-- Byte i of a payload. -/
def byteAt (l : List Byte) (i : Nat) : Byte := l.getD i 0

/-- The 16-bit field of a payload that starts at byte i. -/
def halfAt (l : List Byte) (i : Nat) : Half := halfOf (byteAt l i) (byteAt l (i + 1))

/-- A signed quantity as a 16-bit field; `free` where it does not fit, which the manual does not settle (log entry 5). -/
def fitHalf (free : Half) (x : Int) : Half := if -32768 ≤ x ∧ x ≤ 32767 then BitVec.ofInt 16 x else free

/-! ## CONTRIB and RIDER (10.6) -/

/-- The 18 payload bytes of a CONTRIB. -/
def Contrib.toBytes (c : Contrib) : List Byte :=
  [c.role ++ c.nodeState, c.primary] ++ halfBytes c.present ++ halfBytes c.phiT ++ halfBytes c.phiM ++ halfBytes c.tauD ++
    halfBytes c.share ++
    [c.w,
     BitVec.ofBool c.saturated ++ BitVec.ofBool c.driver ++ c.switch ++ c.speedStatus ++ BitVec.ofBool c.dormantReady ++
       BitVec.ofBool c.ramping] ++
    halfBytes c.pulse ++ [c.depth ++ c.refusal, c.topTag]

/-- The fields of a CONTRIB payload. -/
def Contrib.ofBytes (l : List Byte) : Contrib :=
  { role := (byteAt l 0).extractLsb' 4 4, nodeState := (byteAt l 0).extractLsb' 0 4, primary := byteAt l 1,
    present := halfAt l 2, phiT := halfAt l 4, phiM := halfAt l 6, tauD := halfAt l 8, share := halfAt l 10,
    w := byteAt l 12, saturated := (byteAt l 13).getLsbD 7, driver := (byteAt l 13).getLsbD 6,
    switch := (byteAt l 13).extractLsb' 4 2, speedStatus := (byteAt l 13).extractLsb' 2 2,
    dormantReady := (byteAt l 13).getLsbD 1, ramping := (byteAt l 13).getLsbD 0, pulse := halfAt l 14,
    depth := (byteAt l 16).extractLsb' 4 4, refusal := (byteAt l 16).extractLsb' 0 4, topTag := byteAt l 17 }

/-- The 6 payload bytes of a RIDER. -/
def Rider.toBytes (r : Rider) : List Byte :=
  halfBytes r.delta ++ halfBytes r.tauH ++ [r.angleState ++ r.torqueState, r.nodeState]

/-- The fields of a RIDER payload. -/
def Rider.ofBytes (l : List Byte) : Rider :=
  { delta := halfAt l 0, tauH := halfAt l 2, angleState := (byteAt l 4).extractLsb' 4 4,
    torqueState := (byteAt l 4).extractLsb' 0 4, nodeState := byteAt l 5 }

/-! ## The word of a sensor (R105) -/

/-- The 16-bit signed value: the first 16 bits of the 24. -/
def wordValue (w : BitVec 24) : Int := (w.extractLsb' 8 16).toInt

/-- The four status bits. -/
def wordStatus (w : BitVec 24) : BitVec 4 := w.extractLsb' 4 4

/-- The four check bits. -/
def wordCheck (w : BitVec 24) : BitVec 4 := w.extractLsb' 0 4

/-- The sum of the value's four nibbles modulo 16. -/
def nibbleSum (w : BitVec 24) : BitVec 4 :=
  w.extractLsb' 20 4 + w.extractLsb' 16 4 + w.extractLsb' 12 4 + w.extractLsb' 8 4

end Sys2Proof.Machine
end

