-- ==== Sys2Proof/Machine/Override.lean ====
section
/-! DEFINITION. The override stack of the lean engine (chapter 2): the operations on the list of entries, the auto-lock dwell,
the top-change notices, and the events OVERRIDE, RELEASE, dwell expiry, speed-status change and node-state change. -/

namespace Sys2Proof.Machine

/-! ## The list of entries -/

/-- What stands after a pop: every surfacing entry marked release-pending is popped as well (R34). -/
def surface : List Entry → List Entry
  | [] => []
  | e :: rest => if e.pending then surface rest else e :: rest

/-- The advance of the top entry at a period expiry (R35). -/
def advanceTop : List Entry → List Entry
  | [] => []
  | e :: rest =>
    match e.count with
    | .finite n => if n ≤ 1 then surface rest else { e with count := .finite (n - 1) } :: rest
    | .forever h => { e with count := .forever (min (h + 1) 65535) } :: rest

/-- A RELEASE of a tag: the top is popped, a lower entry is marked, tag 240 and an absent tag do nothing (R33). -/
def releaseTag (tag : Byte) : List Entry → List Entry
  | [] => []
  | e :: rest =>
    if tag = 240 then e :: rest
    else if e.tag = tag then surface rest
    else e :: rest.map (fun x => if x.tag = tag then { x with pending := true } else x)

/-- The entries a motion releases: tags 240 and 241 and every PARK (R40). -/
def Entry.movesOff (e : Entry) : Bool := e.tag == 240 || e.tag == 241 || e.kind == .park

/-- Mark the entries a motion releases (R40). -/
def markMoving (l : List Entry) : List Entry := l.map (fun e => if e.movesOff then { e with pending := true } else e)

/-- The release by motion below a popped entry: a surfacing entry goes when it is one of those released or is marked (R34,
R40). -/
def motionSurface : List Entry → List Entry
  | [] => []
  | e :: rest => if e.movesOff || e.pending then motionSurface rest else e :: markMoving rest

/-- The release by motion, from the top downward (R40). -/
def motionRelease : List Entry → List Entry
  | [] => []
  | e :: rest => if e.movesOff then motionSurface rest else e :: markMoving rest

/-- Whether a stack holds an entry with a tag. -/
def hasTag (tag : Byte) (l : List Entry) : Bool := l.any (fun e => e.tag == tag)

/-- The top entry as a notice carries it (R36). -/
def topView (l : List Entry) : Option TopView := l.head?.map (fun e => ⟨e.tag, e.kind, e.angle⟩)

/-- The tag of the top entry, if any. -/
def topTag (l : List Entry) : Option Byte := l.head?.map (fun e => e.tag)

/-! ## The auto-lock dwell (R39) -/

/-- The standstill predicate of R39. -/
def standstill (p : Params) (v : Nat) (st : SpeedStatus) : Bool := st.heard && decide (v < p.vStand)

/-- The motion predicate of R39. -/
def motion (p : Params) (v : Nat) (st : SpeedStatus) : Bool := st.heard && decide (p.vUnlock < v)

/-- The node states in which the dwell may run (R39). -/
def dwellState : NodeState → Bool
  | .active | .degraded | .dormant => true
  | _ => false

/-- Whether the three conditions of the dwell hold, for a speed (R39). -/
def State.dwellHolds (s : State) (v : Nat) (st : SpeedStatus) : Bool :=
  standstill s.prm v st && dwellState s.nsc.node &&
    !(s.le.stack.any (fun e => e.kind == .park || e.tag == 240))

/-- The dwell evaluated for a speed: it runs on, starts from 0, or stops (R39). The predicates are those of the latest
speed-status change, at which they are evaluated (R39, log entry 9). -/
def State.evalDwell (s : State) (v : Nat) (st : SpeedStatus) : State :=
  { s with le := { s.le with dwell := Timer.keep s.le.dwell (s.dwellHolds v st) } }

/-! ## Changing the stack -/

/-- A change of the stack: a notice when the top's tag differs or the stack becomes or ceases to be empty (R36), then the
dwell (R39). A stack that stays as it was is no change. -/
def State.setStack (s : State) (new : List Entry) : State :=
  if new = s.le.stack then s
  else
    let t := { s with le := { s.le with stack := new } }
    (if topTag new = topTag s.le.stack then t else t.hand (s.topNotices (topView new))).evalDwell
      s.le.speed.value s.le.speed.status

/-- Whether an internal push finds room and its tag absent (R26, R39, R41). -/
def State.roomFor (s : State) (tag : Byte) : Bool :=
  decide (s.le.stack.length < Config.stackCapacity) && !hasTag tag s.le.stack

/-- An internal entry at φ_m clamped, FOREVER with held 0 (R39, R41). -/
def State.internalEntry (s : State) (tag : Byte) (k : OverrideKind) : Entry :=
  { tag := tag, kind := k, angle := some s.measuredClamped, count := .forever 0, origin := none, pending := false }

/-! ## OVERRIDE (R28 to R32) -/

/-- What the checks of R28 to R31 decide. -/
inductive Verdict where
  | refuse (r : RefusalReason)
  | refresh (c : Count)
  | push (e : Entry)
  deriving DecidableEq, Repr

/-- The count a request settles for a push (R30): none is COUNT_ZERO. -/
def settleCount (role : Role) (count : Half) : Option Count :=
  if count = 0 then (if role = .service then some (.forever 0) else none) else some (.finite count.toNat)

/-- The count a refresh gives an entry (R29): an entry already FOREVER keeps its held count. -/
def refreshCount (role : Role) (count : Half) (old : Count) : Option Count :=
  if count = 0 then
    (if role = .service then (match old with | .forever h => some (.forever h) | .finite _ => some (.forever 0)) else none)
  else some (.finite count.toNat)

/-- The angle of a pushed entry (R31). -/
def State.pushAngle (s : State) (k : OverrideKind) (angle : Half) : Option Int :=
  match k with
  | .hold => some (clampMag s.prm.phiMax angle.toInt)
  | .limit => some (min (angle.toInt.natAbs : Int) s.prm.phiMax)
  | .park => some s.measuredClamped
  | .upright => none

/-- The push checks, in their order: the count, the PARK's speed, the room (R30, R31). The speed is that of the latest
speed-status change the LE has taken (R38, log entry 9). -/
def State.judgePush (s : State) (src : Addr) (role : Role) (tag : Byte) (k : OverrideKind) (angle count : Half) : Verdict :=
  match settleCount role count with
  | none => .refuse .countZero
  | some c =>
    if k = .park ∧ standstill s.prm s.le.speed.value s.le.speed.status = false then .refuse .parkMoving
    else if Config.stackCapacity ≤ s.le.stack.length then .refuse .stackFull
    else .push { tag := tag, kind := k, angle := s.pushAngle k angle, count := c, origin := some src, pending := false }

/-- The checks of an override request, in their order (R28). -/
def State.judge (s : State) (src : Addr) (role : Role) (tag kind : Byte) (angle count : Half) : Verdict :=
  if tag = 0 ∨ 240 ≤ tag.toNat then .refuse .tagConflict
  else
    match overrideOfByte kind with
    | none => .refuse .tagConflict
    | some k =>
      match s.le.stack.find? (fun e => e.tag == tag) with
      | some e =>
        if e.kind ≠ k then .refuse .tagConflict
        else (match refreshCount role count e.count with | some c => .refresh c | none => .refuse .countZero)
      | none => s.judgePush src role tag k angle count

/-- Replace the count of the entry with a tag (R29). -/
def setCount (tag : Byte) (c : Count) (l : List Entry) : List Entry :=
  l.map (fun e => if e.tag = tag then { e with count := c } else e)

/-- Set the last refusal (R32). -/
def State.setRefusal (s : State) (r : RefusalReason) : State := { s with le := { s.le with lastRefusal := r } }

/-- The outcome of an override request (R29, R31, R32). -/
def State.settleOverride (s : State) (tag : Byte) : Verdict → State
  | .refuse r => s.setRefusal r
  | .refresh c => (s.setStack (setCount tag c s.le.stack)).setRefusal .accepted
  | .push e => (s.setStack (e :: s.le.stack)).setRefusal .accepted

/-- A request taken in DORMANT is reported to the NSC as a wake cause (R28, R33). -/
def State.wakeIfDormant (s : State) : State :=
  if s.nsc.node = .dormant then s.hand [.wakeCauseReport] else s

/-- OVERRIDE_REQUEST (R28): discarded in START and HALTED. -/
def execOverrideRequest (src : Addr) (role : Role) (tag kind : Byte) (angle count : Half) (s : State) : Out :=
  .next (let s := s.taken (.overrideRequest src role tag kind angle count)
    if s.nsc.node.live then (s.settleOverride tag (s.judge src role tag kind angle count)).wakeIfDormant else s)

/-- RELEASE_REQUEST (R33). -/
def execReleaseRequest (src : Addr) (tag : Byte) (s : State) (role : Role := .absent) : Out :=
  .next (let s := s.taken (.releaseRequest src tag role)
    if s.nsc.node.live then (s.setStack (releaseTag tag s.le.stack)).wakeIfDormant else s)

/-- AUTO_LOCK_DWELL_EXPIRY (R39), taken when the dwell timer has run T_stand: the auto-HOLD is pushed; with a full stack the timer starts again from 0. -/
def execAutoLockDwellExpiry (s : State) : Out :=
  .next (if s.le.dwell.atLimit (s.prm.tStand * 1000) = false then s
    else if Config.stackCapacity ≤ s.le.stack.length then { s with le := { s.le with dwell := some 0 } }
    else if s.roomFor 240 then s.setStack (s.internalEntry 240 .hold :: s.le.stack)
    else { s with le := { s.le with dwell := none } })

/-- The LE's copy of the consensus speed set (R38, log entry 9). -/
def State.setLeSpeed (s : State) (value : Nat) (status : SpeedStatus) : State :=
  { s with le := { s.le with speed := ⟨value, status⟩ } }

/-- SPEED_STATUS_CHANGE_LE (R38 to R40): the copy, then the release by motion, then the dwell, all for the speed handed over. -/
def execSpeedStatusChangeLe (value : Nat) (status : SpeedStatus) (s : State) : Out :=
  .next (let s := s.taken (.speedStatusChangeLe value status)
    if s.nsc.node.live then
      let t := s.setLeSpeed value status
      (if motion t.prm value status then t.setStack (motionRelease t.le.stack) else t).evalDwell value status
    else s)

/-- Whether the brake is seen ENGAGED for the start-PARK (R41). -/
def State.brakeSeenEngaged (s : State) : Bool :=
  if s.role = .steer then !(s.tiltRows (fun c f => f == .fresh && c.switch == 0)).isEmpty
  else s.bcu.switch == .engaged

/-- NODE_STATE_CHANGE_LE (R39, R41): the start-PARK at LISTEN to ACTIVE, then the dwell. -/
def execNodeStateChangeLe (old new : NodeState) (s : State) : Out :=
  .next (let s := s.taken (.nodeStateChangeLe old new)
    (if old = .listen ∧ new = .active ∧ s.brakeSeenEngaged = true ∧ s.roomFor 241 = true then
        s.setStack (s.internalEntry 241 .park :: s.le.stack)
      else s).evalDwell s.le.speed.value s.le.speed.status)

end Sys2Proof.Machine
end

