-- ==== Sys2Proof/Machine/LeanLaw.lean ====
section
/-! DEFINITION. The lean law (chapter 1): the eight stages, the rate target, publication, the over-lean check, the comparison
with the peers' stacks (R42), and the period expiry that runs them in order. -/

namespace Sys2Proof.Machine

/-! ## The stages S1 to S8 -/

/-- S1: the handlebar view value clamped to ±450 (R8). -/
def State.s1 (s : State) : Int := clampMag Config.handlebarMax s.pvu.view

/-- S2: |κ|, the curvature table at |δ| (R9). -/
def State.s2 (s : State) : Int := interp s.prm.curve s.s1.natAbs

/-- S3: |a| = v·v·|κ|/100000, truncated, then saturated at a_max (R10). -/
def State.s3 (s : State) : Int := min s.prm.aMax (((s.pvu.speed : Int) * s.pvu.speed * s.s2).tdiv 100000)

/-- S4: φ_b = s·y, y the lean table at |a| (R11). -/
def State.s4 (s : State) : Int := s.s1.sign * interp s.prm.lean s.s3

/-- S5: the low-speed fade (R12). -/
def State.s5 (s : State) : Int :=
  if s.pvu.speed ≤ s.prm.vFl then 0
  else if s.prm.vFh ≤ s.pvu.speed then s.s4
  else (s.s4 * ((s.pvu.speed : Int) - s.prm.vFl)).tdiv ((s.prm.vFh : Int) - s.prm.vFl)

/-- S6: the base of the first entry that is not a LIMIT, capped by every LIMIT above it; the free lean when there is none
(R13). -/
def resolveStack (free : Int) : List Entry → Int
  | [] => free
  | e :: rest =>
    match e.kind with
    | .limit => clampMag (e.angle.getD 0) (resolveStack free rest)
    | .hold => e.angle.getD 0
    | .park => e.angle.getD 0
    | .upright => 0

/-- S6 and S7: the requested lean within the envelope (R13, R14). -/
def State.s7 (s : State) : Int := clampMag s.prm.phiMax (resolveStack s.s5 s.le.stack)

/-- S8: the slew from a previous target (R15). -/
def State.s8 (s : State) (prev : Int) : Int := prev + clampMag s.prm.sMax (s.s7 - prev)

/-- The previous target this expiry uses: reseeded at the first expiry in ACTIVE after LISTEN (R20). -/
def State.prevTarget (s : State) : Int :=
  if s.nsc.node = .active ∧ s.le.lastRun = some .listen then s.measuredClamped else s.le.prev

/-- The lean target of this expiry: tracked, or by the stages (R18, R19). -/
def State.leanTarget (s : State) : Int :=
  if s.nsc.node.tracking then s.measuredClamped else s.s8 s.prevTarget

/-- The rate target (R16). -/
def State.rateTarget (s : State) : Int :=
  clampMag Config.rateMax (((s.leanTarget - s.prevTarget) * 1000).tdiv s.prm.p)

/-! ## Publication (R17) -/

/-- The new-target record: the targets, and the stack summary after the advance (R17). -/
def targetRecord (phiT omegaT : Int) (stack : List Entry) (r : RefusalReason) : TargetRecord :=
  { phiT := phiT, omegaT := omegaT, depth := stack.length, topTag := (topTag stack).getD 0, refusal := r }

/-- The hand-over of a record: to the TSU in a tilt role, to the SLU in the STEER role (R17). -/
def State.recordNotice (s : State) (r : TargetRecord) : Instr :=
  if s.role = .steer then .newTargetArrivalSlu r else .newTargetArrivalTsu r

/-- The targets stored, the previous target and the last-run state set (R17). -/
def State.publish (s : State) (phiT omegaT : Int) : State :=
  { s with le := { s.le with phiT := phiT, omegaT := omegaT, prev := phiT, lastRun := some s.nsc.node } }

/-! ## Over-lean (R23 to R25) -/

/-- The over-lean check of a GOOD record with a new reading (R23, R24). -/
def State.countOverLean (s : State) (phi : Int) (stamp : Stamp) : State :=
  if (s.prm.phiStop : Int) < phi.natAbs then
    let n := min (s.le.overCount + 1) 3
    let t := { s with le := { s.le with overCount := n, countedStamp := some stamp,
                                        overReported := s.le.overReported || n == 3 } }
    if n = 3 ∧ s.le.overReported = false then t.hand [.conditionReport .overlean true] else t
  else
    let t := { s with le := { s.le with overCount := 0, countedStamp := some stamp, overReported := false } }
    if s.le.overReported then t.hand [.conditionReport .overlean false] else t

/-- The over-lean check of an expiry, in the tilt roles (R23). -/
def State.overLean (s : State) : State :=
  let r := s.mu.records.shaft
  match s.role.isTilt, r.state, r.lastGood with
  | true, .good, some phi => if s.le.countedStamp = some r.stamp then s else s.countOverLean phi r.stamp
  | _, _, _ => s

/-! ## The comparison with the peers' stacks (R42) -/

/-- Whether a peer qualifies: its CONTRIB row is FRESH and reports ACTIVE or DEGRADED; then its summary (R42). -/
def State.peerSummary (s : State) (a : Nat) : Option (Nat × Byte) :=
  (s.contribAt a).bind (fun q => if q.2 = .fresh ∧ q.1.running = true then some (q.1.depth.toNat, q.1.topTag) else none)

/-- Whether some compared peer's summary differs from the own one (R42). -/
def State.summaryDiffers (s : State) (own : Nat × Byte) : Bool :=
  s.peers.any (fun a => match s.peerSummary a with | some q => q != own | none => false)

/-- The mismatch counter set. -/
def State.setMismatch (s : State) (n : Nat) : State := { s with le := { s.le with mismatch := n } }

/-- The comparison of an expiry (R42). OVERRIDE_MISMATCH, as the LE has reported it, is present while the counter stands at
50 (log entry 22). -/
def State.compareStacks (s : State) (own : Nat × Byte) : State :=
  if s.nsc.node.running then
    if s.summaryDiffers own then
      let n := min (s.le.mismatch + 1) Config.mismatchRun
      let t := s.setMismatch n
      if n = Config.mismatchRun ∧ s.le.mismatch < Config.mismatchRun then
        t.hand [.conditionReport .overrideMismatch true] else t
    else
      let t := s.setMismatch 0
      if s.le.mismatch = Config.mismatchRun then t.hand [.conditionReport .overrideMismatch false] else t
  else (s.setMismatch 0).hand [.conditionReport .overrideMismatch false]

/-! ## The period expiry -/

/-- One period expiry on which the LE runs: S1 reads the view and hands the ramp step (R8), S6 reads the stack as it stands,
the top is advanced (R35), the targets are published (R17), the over-lean and mismatch checks run (R23, R42), and the NSC's
period notice ends it (R142). -/
def State.periodExpiry (s : State) : State :=
  let phiT := s.leanTarget
  let omegaT := s.rateTarget
  let a := (s.hand [.handlebarRampStep]).setStack (advanceTop s.le.stack)
  let r := targetRecord phiT omegaT a.le.stack a.le.lastRefusal
  let b := (a.publish phiT omegaT).hand [s.recordNotice r]
  let c := b.overLean.compareStacks (r.depth, r.topTag)
  ({ c with le := { c.le with periodTimer := some 0 } }).hand [.periodNotice]

/-- PERIOD_EXPIRY (R17): in START and HALTED the LE does not run (R22). -/
def execPeriodExpiry (s : State) : Out := .next (if s.nsc.node.live then s.periodExpiry else s)

end Sys2Proof.Machine
end

