-- ==== Sys2Proof/Machine/Line.lean ====
section
/-! DEFINITION. The line, bit by bit (R155, R156, R158): the 11 bits of a character, the event that 11 bits read from the line
are, the level the node drives on SBD, and the level it reads on SBS. -/

namespace Sys2Proof.Machine

/-! ## Characters and bits (R156, R158) -/

/-- The tag bit of a character: 0 for a data character, 1 for a mark. -/
def LineChar.tag : LineChar → Bool
  | .data _ => false
  | .mark _ => true

/-- The byte of a character. -/
def LineChar.byte : LineChar → Byte
  | .data b => b
  | .mark b => b

/-- The 11 bits of a character, the first sent the most significant: start 0, tag, eight data bits, stop 1 (R156). -/
def LineChar.word (c : LineChar) : BitVec 11 := 0#1 ++ BitVec.ofBool c.tag ++ c.byte ++ 1#1

/-- The bits of 11-bit words in the order they stand on the line. -/
def lineBits (l : List (BitVec 11)) : List Bool := l.flatMap (fun w => [10, 9, 8, 7, 6, 5, 4, 3, 2, 1, 0].map w.getLsbD)

/-- The bits of a sequence of characters, with no gap between a stop bit and the next start bit (R167). -/
def charBits (l : List LineChar) : List Bool := lineBits (l.map LineChar.word)

/-- The character of 11 bits, from its tag bit and its data bits (R156). -/
def charOfWord (w : BitVec 11) : LineChar :=
  if w.getLsbD 9 then .mark (w.extractLsb' 1 8) else .data (w.extractLsb' 1 8)

/-- The command that a complete character is: a data character, or the mark its byte names (R156, R158). -/
def LineChar.command : LineChar → Instr
  | .data b => .dataCharacter b
  | .mark b =>
    if b.toNat < 0xC0 then .openMark b
    else if b.toNat < 0xD0 then .runMark (b.extractLsb' 0 4)
    else if b = 0xFF then .shutMark
    else .unnamedMark b

/-- The command that 11 bits read from the line are: none when they do not begin with a start bit, a framing error when the stop
bit reads 0, tag and data then unused, and otherwise the character's (R155, R156). -/
def lineEvent (w : BitVec 11) : Option Instr :=
  if w.getLsbD 10 then none else if w.getLsbD 0 then some (charOfWord w).command else some .framingError

/-! ## SBD (R155, R167 to R169) -/

/-- The level of the bit time that stands of a frame in flight, true recessive: released before its start bit begins. -/
def InFlight.level (f : InFlight) : Bool :=
  match f.begun with
  | 0 => true
  | n + 1 => (charBits f.chars).getD n true

/-- The next bit time of a frame in flight; the last, the stop bit of SHUT, stands until the frame ends. -/
def InFlight.nextBit (f : InFlight) : InFlight :=
  if f.begun < 11 * f.chars.length then { f with begun := f.begun + 1 } else f

/-- The level that SBD puts on the line, true released: the bit of the frame in flight while SENDING, dominant through an abort
break, and released otherwise (R155, R169, R170). -/
def Bi.sbd (b : Bi) : Bool :=
  match b.tx, b.inFlight with
  | .sending, some f => f.level
  | .aborting, _ => false
  | _, _ => true

/-! ## SBS (R155) -/

/-- The level read last at a line event; while the receiver is off SBS is not read. -/
def State.readLine (s : State) (level : Bool) : State :=
  if s.bi.rx = .off then s else { s with bi := { s.bi with sbs := level } }

end Sys2Proof.Machine
end

