-- ==== Sys2Proof/Machine/Reset.lean ====
section
/-! DEFINITION. The two resets (scope section 5, R143, R178): every block to its start values, the NSC's kept items through
a restart, and the entry to START at which the CL reads the straps and begins the image read (R172). -/

namespace Sys2Proof.Machine

/-- The switch the two contacts decode to (R68). -/
def switchOf (bks1Closed bks2Closed : Bool) : Switch :=
  match bks1Closed, bks2Closed with
  | true, false => .engaged
  | false, true => .released
  | false, false => .between
  | true, true => .invalid

/-- The BCU after a reset that decodes a switch (R66, R79). -/
def bcuAfterReset (sw : Switch) : Bcu :=
  { Bcu.resetEngaged with
    switch := sw
    state := if sw = .engaged then .engaged else .engaging
    timer := if sw = .engaged then none else some (.brake, 0) }

/-- The present set that stands at the entry to START: the event conditions whose latches are kept (R138, R140). -/
def keptPresent (latches : CondSet) : CondSet := CondSet.ofPred (fun c => isEvent c && CondSet.has latches c)

/-- Every block to its reset values with the pins as they stand, the NSC keeping the latches and the last HALT it is given.
The queue and the free-value number are no block's; hand-offs under way are abandoned (R44, R82, R114, R117, R170). -/
def resetNode (s : State) (latches : CondSet) (lastHalt : Option HaltRecord) : State :=
  { State.reset with
    pins := s.pins
    cl := { phase := .reading, ownAddr := s.pins.ads, image := none }
    bcu := bcuAfterReset (switchOf s.pins.bks1Closed s.pins.bks2Closed)
    nsc := { Nsc.reset with latches := latches, present := keptPresent latches, lastHalt := lastHalt }
    pending := s.pending
    free := s.free }

/-- A restart taking effect: the condition latches and the last HALT are kept (R178). -/
def restartNode (s : State) : State := resetNode s s.nsc.latches s.nsc.lastHalt

/-- FULL_RESET (R143): all latches clear, no last HALT; the straps and inputs as the reset finds them (log entry 29). -/
def execFullReset (ads : Addr) (bks1Closed bks2Closed bfltLow : Bool) (s : State) : Out :=
  .next (resetNode { s with pins := ⟨ads, bks1Closed, bks2Closed, bfltLow⟩ } 0 none)

/-- RESTART (R178): the pending restart takes effect when the REPORT that answered it has left its slot, and this command
is the event that it has been sent or discarded (log entry 14). Without a restart so pending there is no such event. -/
def execRestart (s : State) : Out :=
  .next (if s.sr.restartPending && s.bi.slots.report.isNone then restartNode s else s)

end Sys2Proof.Machine
end

