-- ==== Sys2Proof/Machine/Transmit.lean ====
section
/-! DEFINITION. The transmitter of the bus interface: the four slots (R166), the characters a frame is sent as (R167), and the
events of the transmitter (R167 to R169). The idle, which the receiver takes as well, stands in `Receive.lean`. -/

namespace Sys2Proof.Machine

/-! ## Slots (R166) -/

/-- The slot of a kind; only the four kinds the node sends have one. -/
def Slots.get (x : Slots) : FrameKind → Option Slot
  | .halt => x.halt
  | .rider => x.rider
  | .contrib => x.contrib
  | .report => x.report
  | _ => none

/-- Put something into, or take it out of, the slot of a kind. -/
def Slots.put (x : Slots) (k : FrameKind) (v : Option Slot) : Slots :=
  match k with
  | .halt => { x with halt := v }
  | .rider => { x with rider := v }
  | .contrib => { x with contrib := v }
  | .report => { x with report := v }
  | _ => x

/-- The lowest kind whose slot is not empty (R167). -/
def Slots.lowest (x : Slots) : Option FrameKind :=
  if x.halt.isSome then some .halt
  else if x.rider.isSome then some .rider
  else if x.contrib.isSome then some .contrib
  else if x.report.isSome then some .report
  else none

/-- A fill by a slot's owner: the new frame with abort count 0, whatever the slot held; an IDLE transmitter goes to WAIT_GAP
(R166, R167). A transmitter that is off holds no frame (R170, log entry 25). -/
def State.fill (s : State) (k : FrameKind) (payload : List Byte) : State :=
  if s.bi.tx = .off then s
  else { s with bi := { s.bi with slots := s.bi.slots.put k (some ⟨payload, 0⟩),
                                  tx := if s.bi.tx = .idle then .waitGap else s.bi.tx } }

/-! ## The characters of a frame (R159, R167) -/

/-- The maximal runs of equal bytes, in order. -/
def runsOf : List Byte → List (Byte × Nat)
  | [] => []
  | b :: rest =>
    match runsOf rest with
    | [] => [(b, 1)]
    | (c, n) :: more => if c = b then (b, n + 1) :: more else (b, 1) :: (c, n) :: more

/-- The RUN mark for n copies, 2..17 (10.6). -/
def runMarkOf (n : Nat) : LineChar := .mark (BitVec.ofNat 8 (0xC0 + (n - 2)))

/-- What is left of a run after its RUNs of 17: 1 or 2 bytes as data characters, 3 or more as a RUN (R167). -/
def restChars (b : Byte) (n : Nat) : List LineChar :=
  if n ≤ 2 then List.replicate n (.data b) else [runMarkOf n, .data b]

/-- The characters of one run: RUNs of 17, then the rest (R167). -/
def runChars (b : Byte) (n : Nat) : List LineChar :=
  (List.replicate (n / 17) [runMarkOf 17, LineChar.data b]).flatten ++ restChars b (n % 17)

/-- The characters of expanded bytes. -/
def bytesChars (l : List Byte) : List LineChar := (runsOf l).flatMap (fun q => runChars q.1 q.2)

/-- The CRC a sender sends after an OPEN byte and the bytes it covers (R160). -/
def frameCrc (ob : Byte) (l : List Byte) : BitVec 16 := crcBytes (crcByte crcInit ob) l

/-- The characters of a frame: OPEN, the payload and the CRC with its runs, SHUT (R159). -/
def frameChars (ob : Byte) (payload : List Byte) : List LineChar :=
  .mark ob :: bytesChars (payload ++ halfBytes (frameCrc ob payload)) ++ [.mark 0xFF]

/-! ## Transmitter events -/

/-- WAIT_GAP if a slot holds a frame, IDLE if none (R167). -/
def Slots.rest (x : Slots) : TxState := if x.lowest.isSome then .waitGap else .idle

/-- The start of a transmission at the idle: the frame of the lowest kind leaves its slot as the frame in flight (R166,
R167). -/
def State.startSending (s : State) : State :=
  match s.bi.slots.lowest with
  | none => s
  | some k =>
    match s.bi.slots.get k with
    | none => s
    | some f =>
      { s with bi := { s.bi with
          tx := .sending
          slots := s.bi.slots.put k none
          inFlight := some ⟨k, f.payload, f.aborts, frameChars (openByte k s.cl.ownAddr) f.payload, 0⟩ } }

/-- A frame back to its slot with an abort count, unless the slot has been filled meanwhile (R168, R169). -/
def Slots.giveBack (x : Slots) (f : InFlight) (aborts : Nat) : Slots :=
  if (x.get f.kind).isSome then x else x.put f.kind (some ⟨f.payload, aborts⟩)

/-- Whether the frame in flight is the REPORT a pending restart waits on: while the answer still lies in its slot, a REPORT in
flight is an older one (R178). -/
def State.restartWaitsOn (s : State) (f : InFlight) : Bool :=
  s.sr.restartPending && f.kind == .report && s.bi.slots.report.isNone

/-- FRAME_SENT (R167): the last bit, the stop bit of SHUT, has been read back as sent, and the frame is complete. A pending restart takes effect when it was its REPORT (R178). -/
def execFrameSent (s : State) : Out :=
  .next (match s.bi.tx, s.bi.inFlight with
    | .sending, some f =>
      if s.restartWaitsOn f then restartNode s
      else { s with bi := { s.bi with sbs := true, inFlight := none, tx := s.bi.slots.rest } }
    | _, _ => s)

/-- ARBITRATION_LOSS (R168): the level read differs from the level driven; the line is released and the frame returns to its
slot, its abort count unchanged. -/
def execArbitrationLoss (s : State) : Out :=
  .next (match s.bi.tx, s.bi.inFlight with
    | .sending, some f =>
      { s with bi := { s.bi with sbs := !s.bi.sbd, inFlight := none, tx := .waitGap, slots := s.bi.slots.giveBack f f.aborts } }
    | _, _ => s)

/-- The transmitter in ABORTING, its break begun, after a level read that differs from the level driven (R169). -/
def Bi.abort (b : Bi) (slots : Slots) : Bi :=
  { b with sbs := !b.sbd, inFlight := none, tx := .aborting, abortTime := some 0, slots := slots }

/-- READBACK_MISMATCH (R169): the break begins and the abort count rises. At the third abort the frame is discarded and a
link conflict is reported, unless its slot has been filled meanwhile (R171, log entry 15). A pending restart takes effect
when its REPORT is so discarded, the reported latch being set first (R178). -/
def execReadbackMismatch (s : State) : Out :=
  .next (match s.bi.tx, s.bi.inFlight with
    | .sending, some f =>
      if f.aborts + 1 < Config.abortLimit || (s.bi.slots.get f.kind).isSome then
        { s with bi := s.bi.abort (s.bi.slots.giveBack f (f.aborts + 1)) }
      else if s.restartWaitsOn f then resetNode s (CondSet.put s.nsc.latches .linkConflict true) s.nsc.lastHalt
      else ({ s with bi := s.bi.abort s.bi.slots }).hand [.conditionReport .linkConflict true]
    | _, _ => s)

/-- ABORT_BREAK_END (R167): the break has been driven for 33 µs, and SBD is released. -/
def execAbortBreakEnd (s : State) : Out :=
  .next (if s.bi.tx = .aborting ∧ s.bi.abortTime.atLimit Config.tAbort = true then
      { s with bi := { s.bi with tx := s.bi.slots.rest, abortTime := none } }
    else s)

end Sys2Proof.Machine
end

