-- ==== Sys2Proof/Machine/Receive.lean ====
section
/-! DEFINITION. The receiver of the bus interface (R156 to R163), the receive queue (R164, R165) and the peer view's taking of
its head frame (R123). -/

namespace Sys2Proof.Machine

/-! ## The receiver, character by character (R159, R161) -/

/-- What expanding bytes into the assembler gives: it goes on, a format error, or a DEST that is not for this node. -/
inductive Expansion where
  | going (a : Assembler)
  | formatError
  | notForUs
  deriving DecidableEq, Repr

/-- One expanded byte: a format error at the 36th; the first byte of a QUERY or CLEAR is compared with the own address and
15 (R159, R162). -/
def expandByte (own : Addr) (a : Assembler) (b : Byte) : Expansion :=
  if a.bytes.length ≥ Config.expandedLimit then .formatError
  else if a.kind.hasDest && a.bytes.isEmpty && b.toNat != own.toNat && b.toNat != 15 then .notForUs
  else .going { a with bytes := a.bytes ++ [b], crc := crcByte a.crc b }

/-- A number of copies of a byte, one expanded byte each (R159). -/
def expandCopies (own : Addr) (b : Byte) : Nat → Assembler → Expansion
  | 0, a => .going a
  | n + 1, a =>
    match expandByte own a b with
    | .going a' => expandCopies own b n a'
    | e => e

/-- The receiver after an expansion. -/
def Expansion.receiver : Expansion → Receiver
  | .going a => .inFrame a
  | .formatError => .hunt
  | .notForUs => .skip

/-- A complete data character (R161). -/
def rxData (own : Addr) (b : Byte) : Receiver → Receiver
  | .waitOpen => .hunt
  | .inFrame a => (expandCopies own b (a.run.getD 1) { a with run := none }).receiver
  | r => r

/-- A RUN mark with its low nibble (R159, R161). -/
def rxRun (n : BitVec 4) : Receiver → Receiver
  | .waitOpen => .hunt
  | .inFrame a => if a.run.isSome then .hunt else .inFrame { a with run := some (n.toNat + 2) }
  | r => r

/-- A mark that names no mark, a framing error or a break: every receiver that is on goes to HUNT (R161). -/
def rxAbandon : Receiver → Receiver
  | .off => .off
  | _ => .hunt

/-- A frame time-out, given only in IN_FRAME and SKIP (R157, R161). -/
def rxTimeout : Receiver → Receiver
  | .inFrame _ => .hunt
  | .skip => .hunt
  | r => r

/-- The idle (R161). -/
def rxIdle : Receiver → Receiver
  | .hunt => .waitOpen
  | r => r

/-- Whether a kind is accepted from a source of a roster role; the DEST of a QUERY or CLEAR is looked at later (R162). -/
def accepts : FrameKind → Role → Bool
  | .halt, r => r != .absent
  | .override, r | .release, r => r == .console || r == .service
  | .rider, r => r == .steer
  | .contrib, r => r.isTs44
  | .speed, r => r == .drive
  | .query, r | .clear, r => r == .service
  | .report, _ => false

/-- The assembler at an accepted OPEN: cleared, the OPEN byte entered into the register (R162). -/
def openAssembler (src : Addr) (k : FrameKind) (b : Byte) : Assembler :=
  { src := src, kind := k, bytes := [], crc := crcByte crcInit b, run := none }

/-- Whether the OPEN byte is the one the own transmitter has just sent (R162). -/
def State.sendsOpen (s : State) (b : Byte) : Bool :=
  match s.bi.tx, s.bi.inFlight with
  | .sending, some f => openByte f.kind s.cl.ownAddr == b
  | _, _ => false

/-- The receiver after an OPEN taken in WAIT_OPEN by the table of R162. -/
def acceptOpen (s : State) (b : Byte) : Receiver :=
  match kindOfNat (openKind b) with
  | none => .skip
  | some k =>
    if accepts k (s.roleOf (openSrc b).toNat) then .inFrame (openAssembler (openSrc b) k b) else .skip

/-- Set the receiver. -/
def State.setRx (s : State) (r : Receiver) : State := { s with bi := { s.bi with rx := r } }

/-- An OPEN mark (R161, R162): in WAIT_OPEN the own frame is followed in SKIP, another frame from the own address is a link
conflict, and any other goes by the table; in a frame it is a format error. -/
def rxOpen (s : State) (b : Byte) : State :=
  match s.bi.rx with
  | .waitOpen =>
    if s.sendsOpen b then s.setRx .skip
    else if openSrc b = s.cl.ownAddr then (s.setRx .skip).hand [.conditionReport .linkConflict true]
    else s.setRx (acceptOpen s b)
  | .inFrame _ => s.setRx .hunt
  | .skip => s.setRx .hunt
  | _ => s

/-! ## The receive queue (R164) -/

/-- Whether two frames are of the same source and kind. -/
def RxFrame.same (f g : RxFrame) : Bool := f.src == g.src && f.kind == g.kind

/-- The queue without the periodic frame nearest the tail, if it holds one (R164, case 4). -/
def evictPeriodic : List RxFrame → Option (List RxFrame)
  | [] => none
  | g :: rest =>
    match evictPeriodic rest with
    | some rest' => some (g :: rest')
    | none => if g.kind.periodic then some rest else none

/-- The queue after an offer, and whether it reports an overrun (R164). -/
def offerFrame (q : List RxFrame) (f : RxFrame) : List RxFrame × Bool :=
  if f.kind.periodic && q.any (fun g => g.same f) then (q.map (fun g => if g.same f then f else g), false)
  else if q.length < Config.rfqCapacity then (q ++ [f], false)
  else if f.kind.periodic then (q, true)
  else
    match evictPeriodic q with
    | some q' => (q' ++ [f], true)
    | none => (q, true)

/-- The PVU, when IDLE, takes the head frame and becomes PROCESSING (R123). -/
def State.takeFrame (s : State) : State :=
  match s.pvu.processing, s.bi.rfq with
  | none, f :: rest => { s with pvu := { s.pvu with processing := some (f, 0) }, bi := { s.bi with rfq := rest } }
  | _, _ => s

/-- A frame offered to the queue, an overrun reported, and the head taken by an IDLE peer view (R123, R164, R165). -/
def State.offer (s : State) (f : RxFrame) : State :=
  let r := offerFrame s.bi.rfq f
  let s := { s with bi := { s.bi with rfq := r.1 } }
  (if r.2 then s.hand [.conditionReport .queueOverrun true] else s).takeFrame

/-! ## The end of a frame (R163) -/

/-- The least expanded count of a frame: two CRC bytes, and DEST where the kind has one (R159). -/
def leastCount (k : FrameKind) : Nat := if k.hasDest then 3 else 2

/-- The frame record of an assembler, its CRC taken off (R163). -/
def Assembler.frame (a : Assembler) (now : Stamp) : RxFrame :=
  { src := a.src, kind := a.kind, dest := if a.kind.hasDest then a.bytes.head? else none,
    payload := (a.bytes.drop (if a.kind.hasDest then 1 else 0)).take (a.bytes.length - leastCount a.kind),
    stamp := now }

/-- A SHUT mark (R161, R163). -/
def rxShut (s : State) : State :=
  match s.bi.rx with
  | .inFrame a =>
    if a.run.isNone && decide (leastCount a.kind ≤ a.bytes.length) && a.crc == 0 then
      (s.setRx .hunt).offer (a.frame s.clock)
    else s.setRx .hunt
  | .off => s
  | _ => s.setRx .hunt

/-! ## The commands: each also leaves the level that its last bit was read at (R155) -/

/-- DATA_CHARACTER (R161). -/
def execDataCharacter (b : Byte) (s : State) : Out :=
  .next ((s.readLine true).setRx (rxData s.cl.ownAddr b s.bi.rx))

/-- OPEN_MARK (R162). -/
def execOpenMark (b : Byte) (s : State) : Out := .next (rxOpen (s.readLine true) b)

/-- RUN_MARK (R159). -/
def execRunMark (n : BitVec 4) (s : State) : Out := .next ((s.readLine true).setRx (rxRun n s.bi.rx))

/-- SHUT_MARK (R163). -/
def execShutMark (s : State) : Out := .next (rxShut (s.readLine true))

/-- The receiver in HUNT takes no character (R161); the other states leave for HUNT. -/
def rxBadMark : Receiver → Receiver := rxAbandon

/-- UNNAMED_MARK (R158, R161). -/
def execUnnamedMark (_b : Byte) (s : State) : Out := .next ((s.readLine true).setRx (rxBadMark s.bi.rx))

/-- FRAMING_ERROR (R156, R161): a stop bit read 0. -/
def execFramingError (s : State) : Out := .next ((s.readLine false).setRx (rxAbandon s.bi.rx))

/-- BREAK (R157, R161): the line has read dominant for 22 µs. -/
def execLineBreak (s : State) : Out := .next ((s.readLine false).setRx (rxAbandon s.bi.rx))

/-- FRAME_TIMEOUT (R157, R161). -/
def execFrameTimeout (s : State) : Out := .next ((s.readLine true).setRx (rxTimeout s.bi.rx))

/-- IDLE (R157): the receiver may take an OPEN, and a waiting transmitter starts (R161, R167). -/
def execIdle (s : State) : Out :=
  .next (let s := (s.readLine true).setRx (rxIdle s.bi.rx)
    if s.bi.tx = .waitGap then s.startSending else s)

end Sys2Proof.Machine
end

