-- ==== Sys2Proof/Machine/PeerView.lean ====
section
/-! DEFINITION. The peer view unit (chapter 7): the check of a frame, the foreign SPEED field, the candidates and the consensus
speed, the handlebar view, and the events of the PVU. -/

namespace Sys2Proof.Machine

/-! ## The foreign SPEED frame (R127, R128) -/

/-- The bits of a payload, bit 0 the most significant of the first byte (R127). -/
def payloadBits (l : List Byte) : List Bool := l.flatMap (fun b => [7, 6, 5, 4, 3, 2, 1, 0].map b.getLsbD)

/-- The number a list of bits spells, the first the most significant. -/
def bitsValue (l : List Bool) : Nat := l.foldl (fun n b => 2 * n + b.toNat) 0

/-- The raw value of the speed field: zero-extended, or sign-extended from its most significant bit (R128). -/
def rawSpeed (signed : Bool) (field : List Bool) : Int :=
  if signed && field.head?.getD false then (bitsValue field : Int) - 2 ^ field.length else bitsValue field

/-- The scaling of a raw value: floor, bias, magnitude, cap (R128). -/
def scaleSpeed (p : Params) (raw : Int) : Nat :=
  min ((raw * p.spdMult).fdiv (2 ^ p.spdShift) + p.spdBias).natAbs Config.speedMax

/-- Whether the validity descriptor, where present, lets the frame give a speed (R128). -/
def speedValid (p : Params) (bits : List Bool) : Bool :=
  !p.valPresent || (match bits[p.valOffset]? with | some b => b == p.valSense | none => false)

/-- The speed a SPEED payload gives, if any (R128). -/
def extractSpeed (p : Params) (payload : List Byte) : Option Nat :=
  let bits := payloadBits payload
  if p.spdOffset + p.spdWidth ≤ bits.length ∧ speedValid p bits = true then
    some (scaleSpeed p (rawSpeed p.spdSigned ((bits.drop p.spdOffset).take p.spdWidth)))
  else none

/-! ## The candidates of the consensus speed (R129) -/

/-- A candidate: the address it stands under, its value when it is present, and its freshness. -/
structure Candidate where
  addr : Nat
  value : Option Nat
  fresh : Freshness
  deriving DecidableEq, Repr

/-- No such station: address 15 (R175). -/
def Candidate.nobody : Candidate := { addr := 15, value := none, fresh := .empty }

/-- The own pulse, FRESH when present (R129). DESIGN CHOICE (log entry 34): the wheel speed is read as it stands, so that a
speed hold expiry between a completion and the peer view's sweep notice finds it, where R131 says that a candidate appears only
at a frame-done or a sweep notice. -/
def State.ownCandidate (s : State) : Candidate :=
  let v := if s.prm.pulseWired then s.mu.wheelSpeed else none
  { addr := s.cl.ownAddr.toNat, value := v, fresh := if v.isSome then .fresh else .empty }

/-- The DRIVE: present when its SPEED record is not EMPTY (R129). -/
def State.driveCandidate (s : State) : Candidate :=
  match s.addrOf .drive with
  | none => .nobody
  | some a =>
    let f := s.freshOf a (s.row a).speed
    { addr := a, value := if f = .empty then none else (s.row a).speed.map (fun q => q.1), fresh := f }

/-- A TS44 peer: present when its CONTRIB record is not EMPTY and carries a pulse speed, capped at 2500 (R129). -/
def State.peerCandidate (s : State) (a : Nat) : Candidate :=
  match s.contribAt a with
  | none => { addr := a, value := none, fresh := .empty }
  | some (c, f) =>
    { addr := a, fresh := f,
      value := if f = .empty ∨ c.pulse = 0xFFFF then none else some (min c.pulse.toNat Config.speedMax) }

/-- The two TS44 peers in address order, or nobody (R129, R175). -/
def State.peerCandidates (s : State) : Candidate × Candidate :=
  ((s.peers[0]?.map s.peerCandidate).getD .nobody, (s.peers[1]?.map s.peerCandidate).getD .nobody)

/-- The four candidates in the order of item 7 (R129, R175). -/
def State.candidates (s : State) : List Candidate :=
  [s.ownCandidate, s.driveCandidate, s.peerCandidates.1, s.peerCandidates.2]

/-! ## The consensus speed (R130 to R132) -/

/-- A present candidate of a freshness. -/
def Candidate.reads (c : Candidate) (f : Freshness) : Bool := c.value.isSome && c.fresh == f

/-- Whether a re-evaluation over some candidates uses a candidate: the FRESH ones, and the AGING ones unless two or more are
FRESH (R130). -/
def usesCandidate (cs : List Candidate) (c : Candidate) : Bool :=
  c.reads .fresh || (decide (cs.countP (fun x => x.reads .fresh) < 2) && c.reads .aging)

/-- The values of the candidates used (R130). -/
def usedValues (cs : List Candidate) : List Nat := (cs.filter (usesCandidate cs)).filterMap (fun c => c.value)

/-- A value put in its place in a sorted list. -/
def insertSorted (x : Nat) : List Nat → List Nat
  | [] => [x]
  | y :: l => if x ≤ y then x :: y :: l else y :: insertSorted x l

/-- A list sorted. -/
def sorted : List Nat → List Nat
  | [] => []
  | x :: l => insertSorted x (sorted l)

/-- The consensus of the used values: none, SINGLE, or VALID with the mean or median of R130. -/
def consensusOf (l : List Nat) : Option (Nat × SpeedStatus) :=
  match sorted l with
  | [] => none
  | [a] => some (a, .single)
  | [a, b] => some ((a + b) / 2, .valid)
  | [_, b, _] => some (b, .valid)
  | _ :: b :: c :: _ => some ((b + c) / 2, .valid)

/-- The status and the hold timer when no candidate is used (R131). `expired`: the re-evaluation is the hold expiry's. -/
def loseSpeed (expired : Bool) (st : SpeedStatus) (hold : Timer) : SpeedStatus × Timer :=
  match st with
  | .valid | .single => (.held, some 0)
  | .held => if expired then (.lost, none) else (.held, hold)
  | .lost => (.lost, hold)

/-- The PVU after a re-evaluation over some candidates (R130, R131). -/
def Pvu.consensus (p : Pvu) (expired : Bool) (cs : List Candidate) : Pvu :=
  let u := fun i : Nat => match cs[i]? with | some c => usesCandidate cs c | none => false
  let p := { p with used := ⟨u 0, u 1, u 2, u 3⟩ }
  match consensusOf (usedValues cs) with
  | some (v, st) => { p with speed := v, speedStatus := st, speedHold := none }
  | none =>
    let q := loseSpeed expired p.speedStatus p.speedHold
    { p with speedStatus := q.1, speedHold := q.2 }

/-- A re-evaluation of the consensus speed: a change of the value or the status is handed on (R132). -/
def State.reevaluate (s : State) (expired : Bool) : State :=
  let p := s.pvu.consensus expired s.candidates
  let t := { s with pvu := p }
  if p.speed = s.pvu.speed ∧ p.speedStatus = s.pvu.speedStatus then t else t.hand (s.speedNotices p.speed p.speedStatus)

/-! ## The handlebar view (R133 to R135) -/

/-- The view set; a change of its status is handed to the NSC (R133). -/
def State.setView (s : State) (value : Int) (st : ViewStatus) (hold : Timer) : State :=
  let t := { s with pvu := { s.pvu with view := value, viewStatus := st, viewHold := hold } }
  if st = s.pvu.viewStatus then t else t.hand [.viewChange st]

/-- The view at a RIDER of the STEER station (R134). -/
def State.viewRider (s : State) (r : Rider) : State :=
  s.setView (clampMag Config.handlebarMax r.delta.toInt) (if r.angleState = 0 then .live else .held) none

/-- A silent source: LIVE becomes HELD, and a HELD view has its timer running (R134, R135). -/
def State.viewSilent (s : State) : State :=
  match s.pvu.viewStatus with
  | .live => s.setView s.pvu.view .held (some 0)
  | .held => s.setView s.pvu.view .held (Timer.keep s.pvu.viewHold true)
  | .ramping => s

/-- Toward 0 by a step, stopping at 0 (R134). -/
def rampToward (step x : Int) : Int := if 0 ≤ x then max 0 (x - step) else min 0 (x + step)

/-- The step of a ramp step (R134). -/
def State.viewStep (s : State) : State :=
  match s.pvu.viewStatus with
  | .ramping => { s with pvu := { s.pvu with view := rampToward s.prm.rDelta s.pvu.view } }
  | _ => s

/-- The freshness of the STEER row's RIDER record (R134). -/
def State.riderFresh (s : State) : Freshness :=
  match s.addrOf .steer with
  | some a => s.freshOf a (s.row a).rider
  | none => .empty

/-- A ramp step: in a tilt role the freshness read first, then the step (R134, R135). -/
def State.rampStep (s : State) : State :=
  (if s.role.isTilt && !s.riderFresh.heard then s.viewSilent else s).viewStep

/-- The view of the STEER role at a sweep notice (R135). -/
def State.viewSweep (s : State) : State :=
  match s.mu.records.angle.state, s.mu.records.angle.lastGood with
  | .good, some d => s.setView d .live none
  | .held, some d => s.setView d .held none
  | .failed, _ | .held, none => s.viewSilent
  | .good, none | .absent, _ => s

/-! ## Taking a frame (R124 to R126) -/

/-- Whether a payload length fits its kind; DEST is not part of the payload (R124). -/
def lengthFits : FrameKind → Nat → Bool
  | .halt, n => n == 2
  | .override, n => n == 6
  | .release, n => n == 1
  | .rider, n => n == 6
  | .contrib, n => n == 18
  | .speed, n => decide (1 ≤ n) && decide (n ≤ 16)
  | .query, n => n == 3
  | .clear, n => n == 1
  | .report, _ => false

/-- Whether the role field of a CONTRIB is the roster role of its source; other kinds have none (R124). -/
def State.roleFits (s : State) (f : RxFrame) : Bool :=
  f.kind != .contrib || (Contrib.ofBytes f.payload).role.toNat == roleCode (s.roleOf f.src.toNat)

/-- The row of a periodic frame's source with the record of its kind replaced (R119, R125). -/
def Row.replace (r : Row) (p : Params) (f : RxFrame) : Row :=
  match f.kind with
  | .rider => { r with rider := some (Rider.ofBytes f.payload, f.stamp) }
  | .contrib => { r with contrib := some (Contrib.ofBytes f.payload, f.stamp) }
  | .speed =>
    match extractSpeed p f.payload with
    | some v => { r with speed := some (v, f.stamp) }
    | none => r
  | _ => r

/-- Steps 1 and 2 of a periodic frame: the row, then the view in a tilt role (R125). -/
def State.applyPeriodic (s : State) (f : RxFrame) : State :=
  let t := s.setRow f.src.toNat ((s.row f.src.toNat).replace s.prm f)
  if s.role.isTilt ∧ f.kind = .rider ∧ s.roleOf f.src.toNat = .steer then t.viewRider (Rider.ofBytes f.payload) else t

/-- The QUERY command an item names (R126, R174). -/
def queryCommand (item index page : Byte) (h : ServiceHead := .none) : Instr :=
  match item.toNat with
  | 1 => .queryNodeState index page h
  | 2 => .queryPeerRow index page h
  | 3 => .queryStack index page h
  | 4 => .queryRecords index page h
  | 5 => .queryImage index page h
  | 6 => .queryBrake index page h
  | 7 => .queryConsensus index page h
  | 8 => .queryUnit index page h
  | _ => .queryUnknownItem item index page h

/-- The CLEAR command an action names (R126, R176). -/
def clearCommand (action : Byte) (h : ServiceHead := .none) : Instr :=
  match action.toNat with
  | 1 => .clearLatches h
  | 2 => .clearRestart h
  | _ => .clearUnknownAction action h

/-- What a QUERY or CLEAR frame is handed with (R126). Its record always has a DEST (R163). -/
def State.serviceHead (s : State) (f : RxFrame) : ServiceHead :=
  { src := f.src, role := s.roleOf f.src.toNat, dest := f.dest.getD 15 }

/-- What a command frame hands to its owner, with its source and the source's roster role (R126). -/
def State.commandOf (s : State) (f : RxFrame) : List Instr :=
  let l := f.payload
  let role := s.roleOf f.src.toNat
  match f.kind with
  | .halt => [.haltHandoff f.src (byteAt l 0) (byteAt l 1) role]
  | .override =>
    [.overrideRequest f.src role (byteAt l 0) (byteAt l 1) (halfAt l 2) (halfAt l 4)]
  | .release => [.releaseRequest f.src (byteAt l 0) role]
  | .query => [queryCommand (byteAt l 0) (byteAt l 1) (byteAt l 2) (s.serviceHead f)]
  | .clear => [clearCommand (byteAt l 0) (s.serviceHead f)]
  | _ => []

/-- The effects of a frame-done: the checks, then R125 or R126; a discarded frame only has the consensus re-evaluated. -/
def State.applyFrame (s : State) (f : RxFrame) : State :=
  if lengthFits f.kind f.payload.length = false then s.reevaluate false
  else if s.roleFits f = false then (s.hand [.conditionReport .linkConflict true]).reevaluate false
  else
    let t := if f.kind.periodic then s.applyPeriodic f else s.hand (s.commandOf f)
    (t.reevaluate false).hand [.frameNotice f.src f.kind]

/-- The PVU becomes IDLE and takes the next head frame (R123). -/
def State.nextFrame (s : State) : State := ({ s with pvu := { s.pvu with processing := none } }).takeFrame

/-! ## The row sweep (R121) -/

/-- A record, unless its age exceeds 30 s (R121). -/
def keepYoung {α : Type} (now : Stamp) (rec : Option (α × Stamp)) : Option (α × Stamp) :=
  rec.filter (fun q => decide (age now q.2 ≤ Config.tRow))

/-- A row with its old records removed (R121). -/
def Row.keepYoung (now : Stamp) (r : Row) : Row :=
  { rider := Machine.keepYoung now r.rider, contrib := Machine.keepYoung now r.contrib,
    speed := Machine.keepYoung now r.speed }

/-! ## The commands -/

/-- FRAME_DONE (R123): taken while the PVU is PROCESSING. -/
def execFrameDone (s : State) : Out :=
  .next (match s.pvu.processing with
    | some (f, _) => if s.nsc.node.live then (s.applyFrame f).nextFrame else s
    | none => s)

/-- SWEEP_NOTICE_PVU (R110, R132, R135). -/
def execSweepNoticePvu (n : SweepNotice) (s : State) : Out :=
  .next (let s := s.taken (.sweepNoticePvu n)
    if s.nsc.node.live then
      if s.role = .steer then (s.reevaluate false).viewSweep else s.reevaluate false
    else s)

/-- HANDLEBAR_RAMP_STEP (R134, R135). -/
def execHandlebarRampStep (s : State) : Out :=
  .next (let s := s.taken .handlebarRampStep
    if s.nsc.node.live then s.rampStep else s)

/-- SPEED_HOLD_EXPIRY (R131): taken when the speed hold timer has run H_v. -/
def execSpeedHoldExpiry (s : State) : Out :=
  .next (if s.pvu.speedHold.atLimit (s.prm.hV * 1000) && s.nsc.node.live then s.reevaluate true else s)

/-- HANDLEBAR_HOLD_EXPIRY (R134, R135): taken when the handlebar hold timer has run H_δ. -/
def execHandlebarHoldExpiry (s : State) : Out :=
  .next (if s.pvu.viewHold.atLimit (s.prm.hDelta * 1000) && s.nsc.node.live then s.setView s.pvu.view .ramping none else s)

/-- ROW_SWEEP_EXPIRY (R121): the timer runs from LISTEN to DORMANT. -/
def execRowSweepExpiry (s : State) : Out :=
  .next (if s.nsc.node.live then
      { s with pvu := { s.pvu with table := s.pvu.table.map (Row.keepYoung s.clock), rowSweep := some 0 } }
    else s)

end Sys2Proof.Machine
end

