-- ==== Sys2Proof/Machine/Node.lean ====
section
/-! DEFINITION. The node state controller (chapter 8): the present set and the latches, the changes of the node state, the
joining and the clear run, the rejoin and dormant timers, the wake tests, and the events of the NSC. -/

namespace Sys2Proof.Machine

/-- Set the NSC. -/
def State.setNsc (s : State) (n : Nsc) : State := { s with nsc := n }

/-! ## A change of the node state (R142) -/

/-- The NSC in a new state: FLT (R142), the counts that an entry sets (R144, R145, R151), the rejoin timer stopped, so that an
entry to FREE or CLAMPED starts it from 0 (R149), the dwell stopped outside ACTIVE (R150); `lean` is the entry lean that an entry
to DORMANT stores (R151). DESIGN CHOICE (log entry 36): the clear run is 0 after every entry to ACTIVE, also from LISTEN and
DORMANT, and an entry to any state but ACTIVE and DEGRADED keeps it; R145 speaks of DEGRADED only. -/
def Nsc.enter (n : Nsc) (new : NodeState) (lean : Option Int) : Nsc :=
  { n with
    node := new
    flt := new.faulted
    joinCount := if new = .listen ∨ new = .active then 0 else n.joinCount
    clearRun := if new = .active ∨ new = .degraded then 0 else n.clearRun
    dormantDwell := if new = .active then n.dormantDwell else none
    rejoin := none
    sendCount := if new = .dormant then Config.dormantSend - 1 else n.sendCount
    entryLean := if new = .dormant then lean else n.entryLean }

/-- The passage to a new state: handed to the LE, to the TSU or the SLU, and to the BCU (R142). The LE's φ_m is the entry
lean of either role (R4, R151). -/
def State.enterNode (s : State) (new : NodeState) : State :=
  (s.setNsc (s.nsc.enter new s.measured)).hand (s.nodeNotices s.nsc.node new)

/-! ## The timers of the NSC -/

/-- Whether one of the latches is set that hold a node out of running: OVERLEAN, HALT_TAKEN, VOTE_OUTLIER (R144, R149). -/
def Nsc.heldOut (n : Nsc) : Bool :=
  n.latches.has .overlean || n.latches.has .haltTaken || n.latches.has .voteOutlier

/-- Whether the rejoin timer is to run (R149). -/
def Nsc.rejoinHolds (n : Nsc) : Bool :=
  (n.node == .free || n.node == .clamped) && !n.present.anyOf isSerious && !n.heldOut

/-- The rejoin timer evaluated, at the end of every event of the NSC (R149). -/
def State.evalRejoin (s : State) : State :=
  s.setNsc { s.nsc with rejoin := Timer.keep s.nsc.rejoin s.nsc.rejoinHolds }

/-- The role's own part of the dormant conditions (R150). -/
def State.dormantRole (s : State) : Bool :=
  if s.role = .steer then
    [Role.tiltA, Role.tiltB].all (fun r =>
      (s.addrOf r).isNone || (match s.contribOf r with | some (c, f) => f.heard && c.nodeState == 6 | none => false))
  else s.bcu.state == .engaged

/-- Whether the dormant conditions hold, for a speed (R150). -/
def State.dormantHolds (s : State) (v : Nat) (st : SpeedStatus) : Bool :=
  s.nsc.topCopy == some .park && st.heard && v == 0 && s.nsc.present == 0 && s.dormantRole

/-- The dormant dwell evaluated for a speed, when the node was ACTIVE as the event was taken and still is (R150, log entry
12). -/
def State.evalDormant (s : State) (before : NodeState) (v : Nat) (st : SpeedStatus) : State :=
  if before = .active ∧ s.nsc.node = .active then
    s.setNsc { s.nsc with dormantDwell := Timer.keep s.nsc.dormantDwell (s.dormantHolds v st) }
  else s

/-! ## Conditions (R139 to R141) -/

/-- A condition set or cleared in the present set; a latched condition that becomes present sets its latch (R140). -/
def Nsc.putCondition (n : Nsc) (c : Condition) (b : Bool) : Nsc :=
  { n with
    present := n.present.put c b
    latches := if b && isLatched c then n.latches.put c true else n.latches }

/-- The passage out of running, or out of LISTEN, for a condition (R146). The consensus value is that of the latest
speed-status change the NSC has taken (R153, log entry 10). -/
def State.leaveRunning (s : State) (c : Condition) : State :=
  s.enterNode (if s.role = .steer ∨ c = .voteOutlier ∨ s.prm.vFree ≤ s.nsc.speed.value then .free else .clamped)

/-- What a condition that has become present does to the node state, by its class (R141, R143, R145 to R147, R151). -/
def State.onPresent (s : State) (c : Condition) : State :=
  match s.nsc.node with
  | .active | .dormant =>
    if isSerious c then s.leaveRunning c else if isDegrading c then s.enterNode .degraded else s
  | .degraded =>
    if isSerious c then s.leaveRunning c
    else if isDegrading c then s.setNsc { s.nsc with clearRun := 0 } else s
  | .listen => if c = .overlean ∨ c = .haltTaken then s.leaveRunning c else s
  | .start => if c = .configBad then s.enterNode .halted else s
  | .free | .clamped | .halted => s

/-- The conditions that no report makes absent: the event conditions, which go with their latch (R140), and CONFIG_BAD, which
stays until the next full reset (R139). -/
def staysPresent (c : Condition) : Bool := isEvent c || c == .configBad

/-- A condition found present or absent: a state the present set holds already changes nothing
(R140, R141). -/
def State.report (s : State) (c : Condition) (b : Bool) : State :=
  if s.nsc.present.has c = b then s
  else if b then (s.setNsc (s.nsc.putCondition c true)).onPresent c
  else if staysPresent c then s
  else s.setNsc (s.nsc.putCondition c false)

/-- Whether INPUT_HELD has its cause (R139). DESIGN CHOICE (log entry 35): at an event of one of its three sources the other two
are read as they stand, the view and the record states though a change of theirs still waits, the speed by the NSC's copy (log
entry 10). -/
def inputHeld (a b : RecordState) (st : SpeedStatus) (view : ViewStatus) : Bool :=
  a == .held || b == .held || st == .held || st == .single || view == .held || view == .ramping

/-- Whether a condition has its cause at the passage from START to LISTEN, every source as it stands (R141). -/
def State.sourcePresent (s : State) : Condition → Bool
  | .configBad => false
  | .overlean => s.role.isTilt && s.le.overReported
  | .haltTaken => s.nsc.latches.has .haltTaken
  | .sensorFailed => s.channel1.state == .failed || s.channel2.state == .failed
  | .speedLost => s.pvu.speedStatus == .lost
  | .brakeStuck => s.role.isTilt && s.bcu.state == .stuck
  | .voteOutlier => if s.role = .steer then s.slu.outlier else s.tsu.outlier
  | .bridgeFault => s.role.isTilt && s.pins.bfltLow
  | .disagree => s.role.isTilt && s.tsu.disagree
  | .partnerAbsent => s.role.isTilt && s.tsu.partnerAbsent
  | .inputHeld => inputHeld s.channel1.state s.channel2.state s.pvu.speedStatus s.pvu.viewStatus
  | .linkConflict => s.nsc.latches.has .linkConflict
  | .queueOverrun => s.nsc.latches.has .queueOverrun
  | .overrideMismatch => s.le.mismatch == Config.mismatchRun

/-- The present set taken from the sources, with the latches of what it holds, and the consensus speed as it stands
(R140, R141). -/
def State.takeSources (s : State) : State :=
  s.setNsc { s.nsc with
    speed := ⟨s.pvu.speed, s.pvu.speedStatus⟩
    present := CondSet.ofPred s.sourcePresent
    latches := CondSet.ofPred (fun c => s.nsc.latches.has c || (isLatched c && s.sourcePresent c)) }

/-! ## Joining and the clear run (R144, R145) -/

/-- The brake clause of the join test, in a tilt role (R144). -/
def State.brakeClause (s : State) : Bool :=
  (s.bcu.switch == .engaged && decide (s.pvu.speed < s.prm.vStand)) ||
    (s.bcu.switch == .released &&
      (match s.partnerContrib with | some (c, f) => f == .fresh && c.running | none => false))

/-- The join test (R144). -/
def State.joinTest (s : State) : Bool :=
  s.channel1.state == .good && s.channel2.state == .good && s.pvu.speedStatus.heard && s.pvu.viewStatus == .live &&
    !s.nsc.present.anyOf isSerious && !s.nsc.heldOut && (!s.role.isTilt || s.brakeClause)

/-- The work of a period notice by the node state (R144, R145). -/
def State.countPeriod (s : State) : State :=
  match s.nsc.node with
  | .listen =>
    if s.joinTest then
      if Config.joinRun ≤ s.nsc.joinCount + 1 then s.enterNode .active
      else s.setNsc { s.nsc with joinCount := s.nsc.joinCount + 1 }
    else s.setNsc { s.nsc with joinCount := 0 }
  | .degraded =>
    if s.nsc.present.anyOf isDegrading then s.setNsc { s.nsc with clearRun := 0 }
    else if Config.clearRun ≤ s.nsc.clearRun + 1 then s.enterNode .active
    else s.setNsc { s.nsc with clearRun := s.nsc.clearRun + 1 }
  | .active => if s.nsc.present.anyOf isDegrading then s.enterNode .degraded else s
  | _ => s

/-! ## Waking (R152) -/

/-- A wake cause: it takes a DORMANT node to ACTIVE and does nothing else (R152). -/
def State.wakeWhen (s : State) (cause : Bool) : State :=
  if s.nsc.node = .dormant ∧ cause = true then s.enterNode .active else s

/-- Whether a speed candidate that is FRESH or AGING exceeds v_stand (R152). -/
def State.movingSeen (s : State) : Bool :=
  s.candidates.any (fun c => c.fresh.heard && (match c.value with | some v => decide (s.prm.vStand < v) | none => false))

/-- Whether a lean differs from the entry lean by more than the wake lean; not tested when either has no value (R152). -/
def State.leanMoved (s : State) (phi : Option Int) : Bool :=
  match phi, s.nsc.entryLean with
  | some x, some y => decide (Config.wakeLean < (x - y).natAbs)
  | _, _ => false

/-- Whether a torque magnitude exceeds the wake threshold (R152). -/
def State.torqueWakes (s : State) (tau : Option Int) : Bool :=
  match tau with
  | some t => decide (s.prm.wake < t.natAbs)
  | none => false

/-- The wake tests of a frame notice (R152). -/
def State.frameWakes (s : State) (src : Addr) (k : FrameKind) : Bool :=
  let r := s.roleOf src.toNat
  (match k with
    | .override | .release | .query | .clear => true
    | .rider =>
      s.role.isTilt && r == .steer && s.torqueWakes ((s.row src.toNat).rider.map (fun q => q.1.tauH.toInt))
    | .contrib => s.role == .steer && r.isTilt && s.leanMoved s.measured
    | _ => false) || s.movingSeen

/-- The wake tests of a sweep notice (R152). -/
def State.sweepWakes (s : State) : Bool :=
  s.movingSeen ||
    (if s.role = .steer then s.torqueWakes s.mu.records.torque.lastGood
     else s.leanMoved s.mu.records.shaft.lastGood)

/-! ## The commands -/

/-- CONDITION_REPORT (R140, R141): a new OVERLEAN first fills the HALT slot, reason 1 and the own address (R24). -/
def execConditionReport (c : Condition) (present : Bool) (s : State) : Out :=
  .next (let s := s.taken (.conditionReport c present)
    let t := if c = .overlean ∧ present = true ∧ s.nsc.present.has .overlean = false then
        s.fill .halt [1, BitVec.ofNat 8 s.cl.ownAddr.toNat] else s
    ((t.report c present).evalDormant s.nsc.node t.pvu.speed t.pvu.speedStatus).evalRejoin)

/-- The last HALT stored, HALT_TAKEN latched and present (R148). -/
def Nsc.takeHalt (n : Nsc) (h : HaltRecord) : Nsc := { n.putCondition .haltTaken true with lastHalt := some h }

/-- HALT_HANDOFF (R148): from LISTEN to DORMANT. -/
def execHaltHandoff (src : Addr) (reason detail : Byte) (s : State) (role : Role := .absent) : Out :=
  .next (let s := s.taken (.haltHandoff src reason detail role)
    if s.nsc.node.live then
      ((s.setNsc (s.nsc.takeHalt ⟨src, reason, detail⟩)).onPresent .haltTaken).evalRejoin
    else s)

/-- FRAME_NOTICE (R152). -/
def execFrameNotice (src : Addr) (kind : FrameKind) (s : State) : Out :=
  .next (let s := s.taken (.frameNotice src kind)
    s.wakeWhen (s.frameWakes src kind))

/-- WAKE_CAUSE_REPORT (R28, R33, R152). -/
def execWakeCauseReport (s : State) : Out :=
  .next (let s := s.taken .wakeCauseReport
    s.wakeWhen true)

/-- SWEEP_NOTICE_NSC (R139, R152): the conditions of the records, then the wake tests. The view is read as it stands (log entry
35). DESIGN CHOICE (log entry 38): SENSOR_FAILED acts before INPUT_HELD, so that a notice that makes both present hands on no passage
through DEGRADED. -/
def execSweepNoticeNsc (n : SweepNotice) (s : State) : Out :=
  .next (let s := s.taken (.sweepNoticeNsc n)
    if s.nsc.node.live then
      let t := s.report .sensorFailed (n.first == .failed || n.second == .failed)
      let t := t.report .inputHeld (inputHeld n.first n.second s.nsc.speed.status s.pvu.viewStatus)
      (t.wakeWhen t.sweepWakes).evalRejoin
    else s)

/-- The NSC's copy of the consensus speed set (R153, log entry 10). -/
def State.setNscSpeed (s : State) (value : Nat) (status : SpeedStatus) : State :=
  s.setNsc { s.nsc with speed := ⟨value, status⟩ }

/-- SPEED_STATUS_CHANGE_NSC (R139, R146, R150): the copy, the conditions, CLAMPED to FREE at v_free, the dwell; all for the
value and status handed over (log entry 10), the records and the view as they stand (log entry 35). DESIGN CHOICE (log entry 38):
SPEED_LOST acts before INPUT_HELD. -/
def execSpeedStatusChangeNsc (value : Nat) (status : SpeedStatus) (s : State) : Out :=
  .next (let s := s.taken (.speedStatusChangeNsc value status)
    if s.nsc.node.live then
      let t := (s.setNscSpeed value status).report .speedLost (status == .lost)
      let t := t.report .inputHeld (inputHeld s.channel1.state s.channel2.state status s.pvu.viewStatus)
      let t := if t.nsc.node = .clamped ∧ s.prm.vFree ≤ value then t.enterNode .free else t
      (t.evalDormant s.nsc.node value status).evalRejoin
    else s)

/-- VIEW_CHANGE (R133, R139): the view status handed over, the records as they stand (log entry 35). -/
def execViewChange (status : ViewStatus) (s : State) : Out :=
  .next (let s := s.taken (.viewChange status)
    if s.nsc.node.live then
      (s.report .inputHeld (inputHeld s.channel1.state s.channel2.state s.nsc.speed.status status)).evalRejoin
    else s)

/-- TOP_CHANGE_NOTICE_NSC (R36, R150, R152): the top copy, the wake test, the dwell. -/
def execTopChangeNoticeNsc (top : Option TopView) (s : State) : Out :=
  .next (let s := s.taken (.topChangeNoticeNsc top)
    if s.nsc.node.live then
      let t := s.setNsc { s.nsc with topCopy := top.map (fun q => q.kind) }
      (t.wakeWhen (t.nsc.topCopy != some .park)).evalDormant s.nsc.node s.pvu.speed s.pvu.speedStatus
    else s)

/-- BFLT_CHANGE (R139): the level is the pin's in every state; the condition is a tilt role's, from LISTEN onward (R141). -/
def execBfltChange (low : Bool) (s : State) : Out :=
  .next (let s := { s with pins := { s.pins with bfltLow := low } }
    if s.role.isTilt && s.nsc.node.live then (s.report .bridgeFault low).evalRejoin else s)

/-- PERIOD_NOTICE (R142, R144, R145, R150). -/
def execPeriodNotice (s : State) : Out :=
  .next (let s := s.taken .periodNotice
    if s.nsc.node.live then s.countPeriod.evalDormant s.nsc.node s.pvu.speed s.pvu.speedStatus else s)

/-- REJOIN_TIMER_EXPIRY (R149): taken when the rejoin timer has run 1 s. -/
def execRejoinTimerExpiry (s : State) : Out :=
  .next (if s.nsc.rejoin.atLimit Config.tRejoin = true ∧ (s.nsc.node = .free ∨ s.nsc.node = .clamped) then
      (s.enterNode .listen).evalRejoin
    else s)

/-- DORMANT_DWELL_EXPIRY (R150): taken when the dwell timer has run T_dormant; the conditions are evaluated once more. -/
def execDormantDwellExpiry (s : State) : Out :=
  .next (if s.nsc.dormantDwell.atLimit (s.prm.tDormant * 1000) = true ∧ s.nsc.node = .active then
      if s.dormantHolds s.pvu.speed s.pvu.speedStatus then s.enterNode .dormant
      else s.setNsc { s.nsc with dormantDwell := none }
    else s)

end Sys2Proof.Machine
end

