-- ==== Sys2Proof/Machine/Loader.lean ====
section
/-! DEFINITION. The configuration loader: the fields of the image (10.5), the checks (R173), the loading of the units, and the
completion of the image read (R172). -/

namespace Sys2Proof.Machine

/-! ## Fields of the image (10.5) -/

/-- Byte i of the image, as a number. -/
def imgByte (im : Image) (i : Nat) : Nat := ((im[i]?).getD 0).toNat

/-- The two-byte field at byte i, most significant byte first. -/
def imgHalf (im : Image) (i : Nat) : Nat := imgByte im i * 256 + imgByte im (i + 1)

/-- The signed two-byte field at byte i. -/
def imgInt (im : Image) (i : Nat) : Int := (BitVec.ofNat 16 (imgHalf im i)).toInt

/-- The bit of a given number of byte i. -/
def imgBit (im : Image) (i k : Nat) : Bool := ((im[i]?).getD 0).getLsbD k

/-- A table of n points from byte i: x, then y (10.5). -/
def imgTable (im : Image) (i n : Nat) : List (Nat × Nat) :=
  (List.range n).map (fun k => (imgHalf im (i + 4 * k), imgHalf im (i + 4 * k + 2)))

/-- The fifteen roster codes. -/
def imgRoster (im : Image) : List Nat := (List.range 15).map (fun k => imgByte im (3 + k))

/-- The roster of roles. -/
def rosterOf (im : Image) : Vector Role 15 := Vector.ofFn (fun k => roleOfCode (imgByte im (3 + k.val)))

/-- The parameters an image holds (10.5). T_dormant is in ms, T_d1 and T_d2 in °C. -/
def paramsOf (im : Image) : Params :=
  { ownRole := roleOfCode (imgByte im 1), p := imgByte im 18, curve := imgTable im 19 9, lean := imgTable im 55 9,
    assist := imgTable im 91 6, kp := imgHalf im 115, kd := imgHalf im 117, tauMax := imgHalf im 119,
    tRated := imgHalf im 121, tauTol := imgHalf im 123, nX := imgByte im 125, voteTol := imgHalf im 126,
    nVote := imgByte im 128, kC := imgHalf im 129, nC := imgByte im 131, tauSMax := imgHalf im 132,
    deltaSoft := imgHalf im 134, phiMax := imgHalf im 136, phiStop := imgHalf im 138, sMax := imgByte im 140,
    aMax := imgHalf im 141, vFl := imgHalf im 143, vFh := imgHalf im 145, vStand := imgHalf im 147,
    vUnlock := imgHalf im 149, vFree := imgHalf im 151, vCouple := imgHalf im 153, tStand := imgHalf im 155,
    hV := imgHalf im 157, hDelta := imgHalf im 159, rDelta := imgByte im 161, fresh := imgByte im 162,
    stale := imgHalf im 163, tJoin := imgHalf im 165, tDormant := imgHalf im 167 * 100,
    td1 := (imgByte im 169 : Int) - 40, td2 := (imgByte im 170 : Int) - 40, nHold := imgByte im 171,
    pulseWired := imgBit im 172 7, teeth := imgByte im 172 % 128, circ := imgHalf im 173, spdOffset := imgByte im 175,
    spdSigned := imgBit im 176 7, spdWidth := imgByte im 176 % 64, spdMult := imgInt im 177, spdShift := imgByte im 179,
    spdBias := imgInt im 180, valPresent := imgBit im 182 7, valSense := imgBit im 182 0, valOffset := imgByte im 183,
    wake := imgHalf im 184, tolPark := imgHalf im 186, omegaPark := imgHalf im 188 }

/-! ## The checks (R173) -/

/-- The CRC check (R160, R173). -/
def imageCrcGood (im : Image) : Bool := crcBytes crcInit im.toList == 0

/-- The version and address checks (R173). -/
def imageAddressGood (im : Image) (straps : Addr) : Bool :=
  imgByte im 0 == 1 && imgByte im 2 == straps.toNat && decide (straps.toNat ≤ 14)

/-- The own-role check (R173). -/
def imageRoleGood (im : Image) : Bool :=
  decide (1 ≤ imgByte im 1) && decide (imgByte im 1 ≤ 3) && (imgRoster im)[imgByte im 2]? == some (imgByte im 1)

/-- The roster check (R173). -/
def imageRosterGood (im : Image) : Bool :=
  let r := imgRoster im
  r.all (fun c => decide (c ≤ 6)) && r.count 1 == 1 && decide (r.count 2 ≤ 1) && r.count 3 == 1 && decide (r.count 5 ≤ 1)

/-- Strictly increasing. -/
def increasing : List Nat → Bool
  | x :: y :: l => decide (x < y) && increasing (y :: l)
  | _ => true

/-- Non-decreasing. -/
def nonDecreasing : List Nat → Bool
  | x :: y :: l => decide (x ≤ y) && nonDecreasing (y :: l)
  | _ => true

/-- A table's ranges and the order of its x (R7, R85). -/
def tableGood (t : List (Nat × Nat)) (xMax yMax : Nat) : Bool :=
  t.all (fun q => decide (q.1 ≤ xMax) && decide (q.2 ≤ yMax)) && increasing (t.map Prod.fst)

/-- The table check (R7, R85, R173). -/
def paramTablesGood (p : Params) : Bool :=
  tableGood p.curve 450 1000 && nonDecreasing (p.curve.map Prod.snd) &&
    tableGood p.lean 1500 4500 && nonDecreasing (p.lean.map Prod.snd) && tableGood p.assist 2500 1023

/-- The order check (R173). -/
def paramOrdersGood (p : Params) : Bool :=
  decide (p.vFl < p.vFh) && decide (p.vStand < p.vUnlock) && decide (p.vUnlock < p.vFree) &&
    decide (p.phiMax + 100 ≤ p.phiStop) && decide (p.phiStop ≤ 4999) && decide (p.fresh < p.stale) && decide (p.td1 < p.td2)

/-- The fields that are natural numbers, with their ranges (10.5); a field whose range is all its width holds is left out. -/
def paramRanges (p : Params) : List (Nat × Nat × Nat) :=
  [(p.kd, 0, 4095), (p.tauMax, 100, 30000), (p.tRated, 100, 30000), (p.tauTol, 0, 30000), (p.nX, 1, 255),
   (p.voteTol, 0, 9000), (p.nVote, 1, 255), (p.kC, 0, 4095), (p.nC, 1, 255), (p.tauSMax, 100, 20000),
   (p.deltaSoft, 100, 500), (p.phiMax, 1000, 4500), (p.sMax, 1, 200), (p.aMax, 100, 1500), (p.vFl, 0, 2500),
   (p.vFh, 0, 2500), (p.vStand, 0, 2500), (p.vUnlock, 0, 2500), (p.vFree, 0, 2500), (p.vCouple, 0, 2500)] ++
  [(p.tStand, 100, 10000), (p.hV, 10, 2000), (p.hDelta, 10, 1000), (p.rDelta, 1, 100), (p.fresh, 1, 100),
   (p.stale, 2, 1000), (p.tJoin, 50, 5000), (p.tDormant, 1000, 600000), (p.nHold, 1, 10), (p.teeth, 1, 64),
   (p.circ, 500, 3000), (p.wake, 0, 2000), (p.tolPark, 0, 500), (p.omegaPark, 0, 3000)]

/-- The range check, with the P code (R173). -/
def paramRangesGood (p : Params) : Bool :=
  (paramRanges p).all (fun q => decide (q.2.1 ≤ q.1) && decide (q.1 ≤ q.2.2)) &&
    (p.p == 1 || p.p == 2 || p.p == 4) && decide (p.td1 ≤ 150) && decide (p.td2 ≤ 150)

/-- The descriptor check, with the bits that must be 0 (10.5, R173). -/
def imageDescriptorsGood (im : Image) : Bool :=
  decide (1 ≤ imgByte im 176 % 64) && decide (imgByte im 176 % 64 ≤ 32) && !imgBit im 176 6 &&
    decide (imgByte im 179 ≤ 15) && imgByte im 182 / 2 % 64 == 0

/-- Whether an image is good for a strap value (R173). -/
def imageGood (im : Image) (straps : Addr) : Bool :=
  imageCrcGood im && imageAddressGood im straps && imageRoleGood im && imageRosterGood im &&
    paramTablesGood (paramsOf im) && paramOrdersGood (paramsOf im) && paramRangesGood (paramsOf im) &&
    imageDescriptorsGood im

/-! ## The loading of the units (R172) -/

/-- A record that the role does not use (R100). -/
def Sample.unused (q : Sample) : Sample := { q with state := .absent }

/-- The records of a role: the two outside it ABSENT (R100). -/
def Records.forRole (role : Role) (q : Records) : Records :=
  if role = .steer then { q with shaft := q.shaft.unused, rate := q.rate.unused }
  else { q with angle := q.angle.unused, torque := q.torque.unused }

/-- The image copy kept, with the outcome of its check (R172). -/
def State.keepImage (s : State) (im : Image) (phase : LoadPhase) : State :=
  { s with cl := { s.cl with phase := phase, image := some im } }

/-- The units loaded and started at the passage from START to LISTEN: the roster and the parameters (R118, R172), the records
of the role (R100), the period, sweep and row-sweep timers (R143), the receiver in HUNT and the transmitter IDLE (R170). -/
def State.loadUnits (s : State) (im : Image) : State :=
  { s with
    prm := paramsOf im
    le := { s.le with periodTimer := some 0 }
    mu := { s.mu with records := s.mu.records.forRole (paramsOf im).ownRole, sweepTimer := some 0 }
    pvu := { s.pvu with roster := rosterOf im, rowSweep := some 0 }
    bi := { s.bi with rx := .hunt, tx := .idle } }

/-- A good image: the units loaded, the present set from the sources, LISTEN (R141, R143, R172). -/
def State.imageLoaded (s : State) (im : Image) : State :=
  (((s.keepImage im .good).loadUnits im).takeSources).enterNode .listen

/-- A bad image: CONFIG_BAD present and HALTED (R143, R172). -/
def State.imageRefused (s : State) (im : Image) : State := (s.keepImage im .bad).report .configBad true

/-- IMAGE_READ_COMPLETE (R172): taken while the read is under way in START. -/
def execImageReadComplete (image : Image) (s : State) : Out :=
  .next (if s.nsc.node = .start ∧ s.cl.phase = .reading then
      if imageGood image s.cl.ownAddr then s.imageLoaded image else s.imageRefused image
    else s)

end Sys2Proof.Machine
end

