-- ==== Sys2Proof/Machine/Measure.lean ====
section
/-! DEFINITION. The measurement unit (chapter 6): the sweep, the judging of a word, the sample records, the wheel speed, and
the events of the MU. -/

namespace Sys2Proof.Machine

/-! ## Judging (R105, R106) -/

/-- The plausible range of channel 1 of the role, as a magnitude (R100). -/
def range1 (role : Role) : Int := if role = .steer then 500 else 5000
/-- The plausible range of channel 2 of the role, as a magnitude (R100). -/
def range2 (role : Role) : Int := if role = .steer then 2000 else 30000

/-- The judgement of a word: check, then status, then range (R105). -/
def judgeWord (lim : Int) (w : BitVec 24) : Reading :=
  { value := some (wordValue w)
    cause := if wordCheck w ≠ nibbleSum w then .check
      else if wordStatus w ≠ 0 then .status
      else if wordValue w < -lim ∨ lim < wordValue w then .range
      else .none }

/-- The judgement of a converted temperature (R106). -/
def judgeTemp (t : Int) : Reading := { value := some t, cause := if -40 ≤ t ∧ t ≤ 150 then .none else .range }

/-- The result of a ready timeout: a miss, with no word (R103). -/
def timeoutReading : Reading := { value := none, cause := .timeout }

/-! ## The sample record (R107 to R109) -/

/-- The state of a record after a good read that brings its good run to a count (R107, R109). -/
def stateAfterGood (st : RecordState) (goodRun : Nat) : RecordState :=
  match st with
  | .failed => if Config.nRec ≤ goodRun then .good else .failed
  | .absent => .absent
  | _ => .good

/-- The state of a record after a miss that brings its miss run to a count (R108). -/
def stateAfterMiss (nHold : Nat) (st : RecordState) (missRun : Nat) : RecordState :=
  match st with
  | .good => .held
  | .held => if missRun ≤ nHold then .held else .failed
  | x => x

/-- A result applied to a record at the sweep completion (R107, R108). -/
def Sample.apply (nHold : Nat) (now : Stamp) (rd : Reading) (q : Sample) : Sample :=
  if rd.cause = .none then
    let g := min (q.goodRun + 1) Config.nRec
    { q with state := stateAfterGood q.state g, value := rd.value, lastGood := rd.value, stamp := now, missRun := 0,
             goodRun := g }
  else
    let m := min (q.missRun + 1) 255
    { q with state := stateAfterMiss nHold q.state m, value := rd.value, missRun := m, goodRun := 0,
             lastMiss := rd.cause }

/-- The three results of a sweep applied to the records of the role, channel 1 first (R102). -/
def Records.applySweep (role : Role) (nHold : Nat) (now : Stamp) (a b c : Reading) (q : Records) : Records :=
  let q := { q with temp := q.temp.apply nHold now c }
  if role = .steer then { q with angle := q.angle.apply nHold now a, torque := q.torque.apply nHold now b }
  else { q with shaft := q.shaft.apply nHold now a, rate := q.rate.apply nHold now b }

/-! ## Wheel speed (R111, R112) -/

/-- The speed of an interval of d µs: truncated, then saturated at 2500 (R112). -/
def wheelQuotient (circ teeth d : Nat) : Nat := min (circ * 100000 / (teeth * d)) Config.speedMax

/-- The edge count and the wheel speed worked out at a sweep completion, when the input is wired (R112). -/
def Mu.wheel (m : Mu) (p : Params) (now : Stamp) : Nat × Nat :=
  let g := age now m.t1
  if Config.tStopped ≤ g then (0, 0)
  else if m.edgeCount < 2 then (m.edgeCount, 0)
  else (m.edgeCount, wheelQuotient p.circ p.teeth (max g (age m.t1 m.t0)))

/-- The wheel state after a sweep completion (R112). -/
def Mu.afterWheel (m : Mu) (p : Params) (now : Stamp) : Mu :=
  if p.pulseWired then { m with edgeCount := (m.wheel p now).1, wheelSpeed := some (m.wheel p now).2 } else m

/-- An edge with its stamp (R111). -/
def Mu.edge (m : Mu) (now : Stamp) : Mu :=
  if m.edgeCount = 0 then { m with t1 := now, edgeCount := 1 }
  else if age now m.t1 < Config.edgeFilter then m
  else { m with t0 := m.t1, t1 := now, edgeCount := min (m.edgeCount + 1) 2 }

/-! ## Sweeps (R102, R103) -/

/-- The notice of a completion (R110). -/
def State.noticeOf (s : State) : SweepNotice :=
  { stamp := s.clock, first := s.channel1.state, second := s.channel2.state, third := s.mu.records.temp.state,
    wheelSpeed := s.mu.wheelSpeed }

/-- The sweep completion: the results applied, the wheel speed, IDLE, the notices (R102). DESIGN CHOICE (log entry 37): the buffer is
emptied here too, which R102 does not say. -/
def State.completeSweep (s : State) (a b c : Reading) : State :=
  let m := { s.mu with records := s.mu.records.applySweep s.role s.prm.nHold s.clock a b c }
  let t := { s with mu := { (m.afterWheel s.prm s.clock) with sweep := .idle, buffer := [], readyTimer := none } }
  t.hand (t.sweepNotices t.noticeOf)

/-- The end of a transaction begins the next at the same event; that of channel 3 completes the sweep (R102). -/
def State.endTransaction (s : State) (rd : Reading) : State :=
  match s.mu.sweep with
  | .idle => s
  | .running1 => { s with mu := { s.mu with buffer := [rd], sweep := .running2, readyTimer := some 0 } }
  | .running2 => { s with mu := { s.mu with buffer := s.mu.buffer ++ [rd], sweep := .running3, readyTimer := none } }
  | .running3 =>
    match s.mu.buffer with
    | [a, b] => s.completeSweep a b rd
    | _ => { s with mu := { s.mu with sweep := .idle, buffer := [], readyTimer := none } }

/-- A sweep begun (R102, R103). -/
def Mu.beginSweep (m : Mu) : Mu := { m with sweep := .running1, buffer := [], readyTimer := some 0 }

/-- A due sweep: begun when IDLE, skipped when one is running (R101). -/
def Mu.dueSweep (m : Mu) : Mu := if m.sweep = .idle then m.beginSweep else m

/-- The work of a sweep expiry (R101, R113). -/
def Mu.sweepExpiry (m : Mu) (node : NodeState) : Mu :=
  let m := { m with sweepTimer := some 0 }
  if node = .dormant then
    if m.dormantCount + 1 < Config.dormantSweep then { m with dormantCount := m.dormantCount + 1 }
    else ({ m with dormantCount := 0 }).dueSweep
  else ({ m with dormantCount := 0 }).dueSweep

/-! ## The commands -/

/-- SWEEP_TIMER_EXPIRY (R101, R113): the timer runs from LISTEN to DORMANT. -/
def execSweepTimerExpiry (s : State) : Out :=
  .next (if s.nsc.node.live then { s with mu := s.mu.sweepExpiry s.nsc.node } else s)

/-- READY_EVENT (R103, R104): taken while a sensor transaction waits for ready. DESIGN CHOICE (log entry 32): the command names no
channel, and its word belongs to the transaction that waits as it is taken, so after the ready timeout of channel 1 to channel
2; the reading that R104 calls lost there is no command. -/
def execReadyEvent (word : BitVec 24) (s : State) : Out :=
  .next (match s.mu.sweep with
    | .running1 => s.endTransaction (judgeWord (range1 s.role) word)
    | .running2 => s.endTransaction (judgeWord (range2 s.role) word)
    | _ => s)

/-- READY_TIMEOUT (R103, R104): taken when a sensor transaction has waited 40 µs for ready. -/
def execReadyTimeout (s : State) : Out :=
  .next (if s.mu.readyTimer.atLimit Config.tReady then
      match s.mu.sweep with
      | .running1 => s.endTransaction timeoutReading
      | .running2 => s.endTransaction timeoutReading
      | _ => s
    else s)

/-- CONVERSION_COMPLETE (R106): taken while the conversion runs. -/
def execConversionComplete (temp : Int) (s : State) : Out :=
  .next (if s.mu.sweep = .running3 then s.endTransaction (judgeTemp temp) else s)

/-- WHEEL_EDGE (R111): from LISTEN onward, when the input is wired. -/
def execWheelEdge (s : State) : Out :=
  .next (if s.prm.pulseWired && s.nsc.node.live then { s with mu := s.mu.edge s.clock } else s)

end Sys2Proof.Machine
end

