-- ==== Sys2Proof/Machine/Brake.lean ====
section
/-! DEFINITION. The brake control unit (chapter 4): the partner flag, the own demand, the movement of the brake, STUCK, and
the events of the BCU. -/

namespace Sys2Proof.Machine

/-- The partner flag, codes 0..2 (R69, 10.6). -/
inductive PartnerFlag where
  | off | on | unknown
  deriving DecidableEq, Repr

/-- The partner flag as read now (R69). -/
def State.partnerFlag (s : State) : PartnerFlag :=
  if s.cl.phase ≠ .good then .unknown
  else
    match s.partner with
    | none => .off
    | some a =>
      match s.contribAt a with
      | some (c, f) => if f = .fresh then (if c.driver then .on else .off) else .unknown
      | none => .unknown

/-- Whether a running node's parked body lets the demand go OFF (R70). -/
def State.parkSettled (s : State) : Bool :=
  match s.bcu.topCopy, s.mu.records.shaft.lastGood, s.mu.records.rate.lastGood with
  | some (.park, angle), some phi, some om =>
    decide ((phi - angle.getD 0).natAbs ≤ s.prm.tolPark) && decide (om.natAbs ≤ s.prm.omegaPark) &&
      s.pvu.speedStatus.heard && decide (s.pvu.speed < s.prm.vStand)
  | _, _, _ => false

/-- The own demand as evaluated now: true is ON (R70). -/
def State.ownDemand (s : State) : Bool :=
  match s.nsc.node with
  | .start | .listen | .clamped | .dormant | .halted => false
  | .active | .degraded => !s.parkSettled
  | .free => true

/-! ## Movement of the brake -/

/-- ENGAGING entered: the driver OFF and the timer toward T_brake; ENGAGED at once when the switch reads so (R71, R73). DEDUCED
(log entry 31): the entry look of R73 acts at every entry, so also where the third row of R81 (T_preload expiry first, then
the demand OFF) names only ENGAGING with the timer started again, while the switch still reads ENGAGED. -/
def Bcu.toEngaging (b : Bcu) : Bcu :=
  if b.switch = .engaged then { b with state := .engaged, driver := false, timer := none }
  else { b with state := .engaging, driver := false, timer := some (.brake, 0) }

/-- RELEASING entered: the driver ON and the timer toward T_brake; RELEASED at once when the switch reads so (R72, R73). -/
def Bcu.toReleasing (b : Bcu) : Bcu :=
  if b.switch = .released then { b with state := .released, driver := true, timer := none }
  else { b with state := .releasing, driver := true, timer := some (.brake, 0) }

/-- PRELOAD entered (R72). -/
def Bcu.toPreload (b : Bcu) : Bcu := { b with state := .preload, driver := false, timer := some (.preload, 0) }

/-- STUCK entered (R78). -/
def Bcu.toStuck (b : Bcu) : Bcu :=
  { b with state := .stuck, driver := b.demand, timer := none, invalidRun := 0, agreeRun := 0 }

/-- Set the BCU. -/
def State.setBcu (s : State) (b : Bcu) : State := { s with bcu := b }

/-- STUCK entered, with its report (R78). -/
def State.enterStuck (s : State) : State := (s.setBcu s.bcu.toStuck).hand [.conditionReport .brakeStuck true]

/-- The brake after the own demand turns OFF (R71). -/
def Bcu.demandOff (b : Bcu) : Bcu :=
  let b := { b with demand := false }
  match b.state with
  | .released | .releasing | .preload => b.toEngaging
  | .stuck => { b with driver := false }
  | .engaging | .engaged | .heldOff => b

/-- The brake after the own demand turns ON (R72). -/
def Bcu.demandOn (b : Bcu) : Bcu :=
  let b := { b with demand := true }
  match b.state with
  | .engaged => b.toPreload
  | .engaging | .heldOff => b.toReleasing
  | .stuck => { b with driver := true }
  | .released | .releasing | .preload => b

/-- The own demand evaluated afresh: the same demand leaves the brake state as it is (R70). -/
def State.evalDemand (s : State) : State :=
  if s.ownDemand = s.bcu.demand then s
  else s.setBcu (if s.ownDemand then s.bcu.demandOn else s.bcu.demandOff)

/-- The move that a new switch makes of a brake state: the table of R73. -/
def Bcu.switchMove (b : Bcu) (st : BrakeState) (sw : Switch) : Bcu :=
  match st, sw with
  | .released, .engaged | .released, .between => b.toReleasing
  | .releasing, .released => { b with state := .released, timer := none }
  | .engaging, .engaged => { b with state := .engaged, timer := none }
  | .engaged, .released | .engaged, .between => b.toEngaging
  | .heldOff, .engaged => { b with state := .engaged }
  | .heldOff, .between => b.toEngaging
  | _, _ => b

/-- The brake after a change of the switch, the new switch stored (R73). -/
def Bcu.onSwitch (b : Bcu) (sw : Switch) : Bcu := ({ b with switch := sw }).switchMove b.state sw

/-! ## The sweep notice (R76 to R78) -/

/-- Whether the switch agrees with the demand in STUCK (R78). -/
def Bcu.agrees (b : Bcu) : Bool :=
  (b.demand && b.switch == .released) || (!b.demand && b.switch == .engaged)

/-- The agree run of a sweep notice in STUCK, and the leaving of STUCK at 3 (R78). -/
def State.countAgree (s : State) : State :=
  if s.bcu.agrees then
    if 3 ≤ s.bcu.agreeRun + 1 then
      (s.setBcu { s.bcu with state := if s.bcu.demand then .released else .engaged, agreeRun := 0 }).hand
        [.conditionReport .brakeStuck false]
    else s.setBcu { s.bcu with agreeRun := s.bcu.agreeRun + 1 }
  else s.setBcu { s.bcu with agreeRun := 0 }

/-- HELD_OFF at a sweep notice: ENGAGING when the partner flag reads OFF (R76). -/
def State.lookHeldOff (s : State) : State :=
  if s.bcu.state = .heldOff ∧ s.partnerFlag = .off then s.setBcu s.bcu.toEngaging else s

/-- The invalid run of a sweep notice, STUCK at 3, else the look at HELD_OFF (R76, R77). -/
def State.countInvalid (s : State) : State :=
  if s.bcu.switch = .invalid then
    if 3 ≤ s.bcu.invalidRun + 1 then s.enterStuck
    else (s.setBcu { s.bcu with invalidRun := s.bcu.invalidRun + 1 }).lookHeldOff
  else (s.setBcu { s.bcu with invalidRun := 0 }).lookHeldOff

/-- A sweep notice at the BCU (R70, R76 to R78). -/
def State.bcuSweep (s : State) : State :=
  let s := s.evalDemand
  if s.bcu.state = .stuck then s.countAgree else s.countInvalid

/-! ## The timer expiries (R74, R75) -/

/-- T_brake started again (R74, R75). -/
def Bcu.waitAgain (b : Bcu) : Bcu := { b with timer := some (.brake, 0) }

/-- A T_brake expiry in ENGAGING (R74). The switch is not ENGAGED there (R73); were it, the move is complete. -/
def State.engagingExpiry (s : State) : State :=
  match s.bcu.switch, s.partnerFlag with
  | .released, .on => s.setBcu { s.bcu with state := .heldOff, timer := none }
  | .released, .off => s.enterStuck
  | .released, .unknown => s.setBcu s.bcu.waitAgain
  | .between, _ => s.enterStuck
  | .invalid, _ => s.setBcu s.bcu.waitAgain
  | .engaged, _ => s.setBcu s.bcu.toEngaging

/-- A T_brake expiry in RELEASING (R75). The switch is not RELEASED there (R73); were it, the move is complete. -/
def State.releasingExpiry (s : State) : State :=
  match s.bcu.switch with
  | .engaged | .between => s.enterStuck
  | .invalid => s.setBcu s.bcu.waitAgain
  | .released => s.setBcu s.bcu.toReleasing

/-- The limits of the brake timer in µs (R66). -/
def BrakeLimit.us : BrakeLimit → Nat
  | .brake => Config.tBrake
  | .preload => Config.tPreload

/-- Whether the brake timer has run a limit toward which it runs (R66): a timer that the demand has started again has not, so
that an expiry behind it does not come about (R81, log entry 7). -/
def Bcu.expired (b : Bcu) (l : BrakeLimit) : Bool :=
  match b.timer with
  | some (m, n) => m == l && decide (l.us ≤ n)
  | none => false

/-! ## The commands -/

/-- SWITCH_CHANGE (R68, R73): a change of the contacts that leaves the decoded state gives no event. -/
def execSwitchChange (bks1Closed bks2Closed : Bool) (s : State) : Out :=
  .next (let s := { s with pins := { s.pins with bks1Closed := bks1Closed, bks2Closed := bks2Closed } }
    let sw := switchOf bks1Closed bks2Closed
    if s.hasBcu = true ∧ sw ≠ s.bcu.switch then s.setBcu (s.bcu.onSwitch sw) else s)

/-- T_BRAKE_EXPIRY (R74, R75): taken when the brake timer has run T_brake. -/
def execTBrakeExpiry (s : State) : Out :=
  .next (if s.hasBcu && s.bcu.expired .brake then
      match s.bcu.state with
      | .engaging => s.engagingExpiry
      | .releasing => s.releasingExpiry
      | _ => s
    else s)

/-- T_PRELOAD_EXPIRY (R75): taken when the brake timer has run T_preload. -/
def execTPreloadExpiry (s : State) : Out :=
  .next (if s.hasBcu && s.bcu.expired .preload && s.bcu.state == .preload then s.setBcu s.bcu.toReleasing else s)

/-- SWEEP_NOTICE_BCU (R77). -/
def execSweepNoticeBcu (n : SweepNotice) (s : State) : Out :=
  .next (let s := s.taken (.sweepNoticeBcu n)
    if s.hasBcu then s.bcuSweep else s)

/-- TOP_CHANGE_NOTICE_BCU (R66, R70): the top copy, then the demand. -/
def execTopChangeNoticeBcu (top : Option TopView) (s : State) : Out :=
  .next (let s := s.taken (.topChangeNoticeBcu top)
    if s.hasBcu then
      (s.setBcu { s.bcu with topCopy := top.map (fun t => (t.kind, t.angle)) }).evalDemand
    else s)

/-- SPEED_STATUS_CHANGE_BCU (R70). -/
def execSpeedStatusChangeBcu (value : Nat) (status : SpeedStatus) (s : State) : Out :=
  .next (let s := s.taken (.speedStatusChangeBcu value status)
    if s.hasBcu then s.evalDemand else s)

/-- NODE_STATE_CHANGE_BCU (R70). -/
def execNodeStateChangeBcu (old new : NodeState) (s : State) : Out :=
  .next (let s := s.taken (.nodeStateChangeBcu old new)
    if s.hasBcu then s.evalDemand else s)

end Sys2Proof.Machine
end

