-- ==== Sys2Proof/Machine/Contrib.lean ====
section
/-! DEFINITION. What the TSU and the SLU share: the reports an arrival makes, the vote (R62, R63), the dormant admission of a
fill (R151), and the CONTRIB frame with the own row that mirrors it (R59, R95, R122). -/

namespace Sys2Proof.Machine

/-- A condition reported present or absent. -/
abbrev Report := Condition × Bool

/-- The reports of an arrival handed to the NSC, in the order made. -/
def State.handReports (s : State) (l : List Report) : State :=
  s.hand (l.map (fun q => .conditionReport q.1 q.2))

/-- A present set with reports applied to it. -/
def CondSet.after (x : CondSet) (l : List Report) : CondSet := l.foldl (fun x q => CondSet.put x q.1 q.2) x

/-! ## The vote (R62, R63) -/

/-- A peer whose row is FRESH and reports ACTIVE or DEGRADED: its φ_t (R62). -/
def State.voterTarget (s : State) (a : Nat) : Option Int :=
  (s.contribAt a).bind (fun q => if q.2 = .fresh ∧ q.1.running = true then some q.1.phiT.toInt else none)

/-- Whether the vote is taken and the outlier test holds for an own φ_t (R62). -/
def State.outlierTest (s : State) (x : Int) : Bool :=
  s.nsc.node.running &&
    match s.peers.map s.voterTarget with
    | [some a, some b] =>
      decide (s.prm.voteTol < (x - a).natAbs) && decide (s.prm.voteTol < (x - b).natAbs) &&
        decide ((a - b).natAbs ≤ s.prm.voteTol)
    | _ => false

/-- The vote run, the outlier reported flag and the report after one arrival (R62, R63). -/
def voteStep (nVote : Nat) (test : Bool) (run : Nat) (outlier : Bool) : Nat × Bool × List Report :=
  if test then
    let n := min (run + 1) nVote
    if n = nVote ∧ outlier = false then (n, true, [(.voteOutlier, true)]) else (n, outlier, [])
  else (0, false, if outlier then [(.voteOutlier, false)] else [])

/-! ## CONTRIB -/

/-- The NSC's admission of a fill: every arrival outside DORMANT, every 50th in it (R151). -/
def State.admitFill (s : State) : State × Bool :=
  if s.nsc.node = .dormant then
    if s.nsc.sendCount + 1 < Config.dormantSend then
      ({ s with nsc := { s.nsc with sendCount := s.nsc.sendCount + 1 } }, false)
    else ({ s with nsc := { s.nsc with sendCount := 0 } }, true)
  else (s, true)

/-- The own pulse speed field: 0xFFFF when the input is not wired or has no value (R59, R115). -/
def State.pulseField (s : State) : Half :=
  match s.mu.wheelSpeed with
  | some v => BitVec.ofNat 16 v
  | none => 0xFFFF

/-- The dormant-ready flag (R150). -/
def State.dormantReady (s : State) : Bool := s.nsc.dormantDwell.isSome || s.nsc.node == .dormant

/-- A CONTRIB frame: the fields common to both roles, and the given ones (R59, R95). The present set is the NSC's with the
reports of this arrival (log entry 11). -/
def State.contribFrame (s : State) (r : TargetRecord) (reports : List Report) (phiM tau share : Int) (w : Nat)
    (saturated driver : Bool) (switch : BitVec 2) (ramping : Bool) : Contrib :=
  { role := BitVec.ofNat 4 (roleCode s.role), nodeState := BitVec.ofNat 4 (nodeCode s.nsc.node),
    primary := BitVec.ofNat 8 (CondSet.after s.nsc.present reports).primary,
    present := CondSet.after s.nsc.present reports,
    phiT := fitHalf (Config.freeHalf s.free) r.phiT, phiM := fitHalf (Config.freeHalf (s.free + 1)) phiM,
    tauD := fitHalf (Config.freeHalf (s.free + 2)) tau, share := fitHalf (Config.freeHalf (s.free + 3)) share,
    w := BitVec.ofNat 8 w, saturated := saturated, driver := driver, switch := switch,
    speedStatus := BitVec.ofNat 2 (speedCode s.pvu.speedStatus), dormantReady := s.dormantReady, ramping := ramping,
    pulse := s.pulseField, depth := BitVec.ofNat 4 r.depth, refusal := BitVec.ofNat 4 (refusalCode r.refusal),
    topTag := r.topTag }

/-- A fill of the CONTRIB slot, with the own row's record stamped at the fill (R59, R122). -/
def State.fillContrib (s : State) (c : Contrib) : State :=
  let t := s.fill .contrib c.toBytes
  let own := t.cl.ownAddr.toNat
  { t.setRow own { t.row own with contrib := some (c, t.clock) } with free := s.free + 4 }

/-- The last step of an arrival: the fill where the NSC admits it (R59, R95, R151). -/
def State.contribStep (s : State) (c : Contrib) : State :=
  let q := s.admitFill
  if q.2 then q.1.fillContrib c else q.1

end Sys2Proof.Machine
end

