-- ==== Sys2Proof/Machine/Service.lean ====
section
/-! DEFINITION. The service responder: the data of the eight items (R175), the answer to a QUERY (R174), and the actions of a
CLEAR (R176, R177). -/

namespace Sys2Proof.Machine

/-! ## Bytes of a reply -/

/-- A one-byte field. -/
def sent1 (n : Nat) : List Byte := [BitVec.ofNat 8 n]

/-- A two-byte field. -/
def sent2 (n : Nat) : List Byte := halfBytes (BitVec.ofNat 16 n)

/-- A signed two-byte field; free where the quantity does not fit (log entry 5). -/
def State.sentInt (s : State) (k : Nat) (x : Int) : List Byte := halfBytes (fitHalf (Config.freeHalf (s.free + k)) x)

/-- Bytes the manual gives no contents for (log entry 4). -/
def State.freeBytes (s : State) (k n : Nat) : List Byte := (List.range n).map (fun i => Config.freeByte (s.free + k + i))

/-- The ms a timer has run, 0 when stopped (R154, R137). -/
def timerMs (t : Timer) : Nat := (t.map msShown).getD 0

/-- The age of a stamp in ms, truncated, saturating at 65535 (R137, R175). -/
def State.ageMs (s : State) (stamp : Stamp) : Nat := msShown (age s.clock stamp)

/-! ## Item data (R175) -/

/-- Item 1 (R154). -/
def State.item1 (s : State) : List Byte :=
  let n := s.nsc
  sent1 (nodeCode n.node) ++ halfBytes n.present ++ sent1 n.present.primary ++ halfBytes n.latches ++
    sent1 n.joinCount ++ sent1 n.clearRun ++ sent1 n.sendCount ++ sent2 (timerMs n.rejoin) ++
    sent2 (timerMs n.dormantDwell) ++
    (match n.lastHalt with
      | some h => sent1 h.src.toNat ++ [h.reason, h.detail]
      | none => [15, 0, 0])

/-- A record of a row: freshness, age, fields; the age and the fields of an absent one are free (R137, log entry 4). -/
def State.sentRecord {α : Type} (s : State) (k a : Nat) (rec : Option (α × Stamp)) (n : Nat) (fields : α → List Byte) :
    List Byte :=
  sent1 (freshCode (s.freshOf a rec)) ++
    match rec with
    | some (x, st) => sent2 (s.ageMs st) ++ fields x
    | none => s.freeBytes k (2 + n)

/-- Item 2, page 0, of an address (R137). -/
def State.item2a (s : State) (a : Nat) : List Byte :=
  sent1 (roleCode (s.roleOf a)) ++ sent2 (s.sRow a / 1000) ++ s.sentRecord 0 a (s.row a).rider 6 Rider.toBytes ++
    s.sentRecord 8 a (s.row a).speed 2 sent2

/-- Item 2, page 1, of an address (R137). -/
def State.item2b (s : State) (a : Nat) : List Byte := s.sentRecord 0 a (s.row a).contrib 18 Contrib.toBytes

/-- An entry of the stack, or ten zeros beyond the depth (R43, R175). -/
def State.sentEntry (s : State) (k : Nat) : Option Entry → List Byte
  | none => List.replicate 10 0
  | some e =>
    [e.tag] ++ sent1 (overrideCode e.kind) ++ s.sentInt k (e.angle.getD 0) ++
      (match e.count with | .finite n => sent2 n ++ sent2 0 | .forever h => sent2 0 ++ sent2 h) ++
      sent1 ((e.origin.map BitVec.toNat).getD 15) ++ sent1 e.pending.toNat

/-- Item 3: the two entries from a depth onward (R43). -/
def State.item3 (s : State) (i : Nat) : List Byte :=
  sent1 (refusalCode s.le.lastRefusal) ++ sent1 s.le.mismatch ++ sent1 s.le.stack.length ++
    s.sentEntry 0 s.le.stack[i]? ++ s.sentEntry 1 s.le.stack[i + 1]?

/-- A sample record (R115). -/
def State.sentSample (s : State) (k : Nat) (q : Sample) : List Byte :=
  sent1 (recordCode q.state) ++ s.sentInt k (q.value.getD 0) ++ s.sentInt (k + 1) (q.lastGood.getD 0) ++
    sent2 (s.ageMs q.stamp) ++ sent1 q.missRun ++ sent1 q.goodRun ++ sent1 (missCode q.lastMiss)

/-- The present drive value: τ_s in the STEER role, τ_o in a tilt role (R115). -/
def State.driveValue (s : State) : Int := if s.role = .steer then s.slu.tauS else s.tsu.tauO

/-- Item 4, page 0 (R115). -/
def State.item4a (s : State) : List Byte :=
  s.sentSample 0 s.channel1 ++ s.sentSample 2 s.channel2 ++ sent1 s.mu.edgeCount ++ halfBytes s.pulseField ++
    s.sentInt 4 s.driveValue

/-- Item 4, page 1 (R115). -/
def State.item4b (s : State) : List Byte := s.sentSample 0 s.mu.records.temp

/-- Item 5: sixteen bytes of the image copy (R175). -/
def State.item5 (s : State) (i : Nat) : List Byte :=
  match s.cl.image with
  | some im => (im.toList.drop (16 * i)).take 16
  | none => s.freeBytes 0 16

/-- The code of the brake timer's limit and the time run; the time of a stopped timer is free (R80, log entry 4). -/
def State.sentBrakeTimer (s : State) : List Byte :=
  match s.bcu.timer with
  | none => sent1 0 ++ s.freeBytes 0 2
  | some (.brake, t) => sent1 1 ++ sent2 (msShown t)
  | some (.preload, t) => sent1 2 ++ sent2 (msShown t)

/-- Codes of the partner flag (10.6). -/
def flagCode : PartnerFlag → Nat
  | .off => 0 | .on => 1 | .unknown => 2

/-- Item 6 (R80). -/
def State.item6 (s : State) : List Byte :=
  let b := s.bcu
  sent1 (brakeCode b.state) ++ sent1 b.driver.toNat ++ sent1 (switchCode b.switch) ++ sent1 b.demand.toNat ++
    sent1 (flagCode s.partnerFlag) ++ s.sentBrakeTimer ++ sent1 b.invalidRun ++ sent1 b.agreeRun

/-- A candidate of item 7: its freshness bits are free where it has no freshness, bits 5..2 are free, and so is the value of
an absent one (R137, R175, log entry 4). -/
def State.sentCandidate (s : State) (k : Nat) (c : Candidate) (known used : Bool) : List Byte :=
  let free := Config.freeByte (s.free + k)
  let fresh := if known then BitVec.ofNat 2 (freshCode c.fresh) else free.extractLsb' 0 2
  sent1 c.addr ++ [BitVec.ofBool c.value.isSome ++ BitVec.ofBool used ++ free.extractLsb' 2 4 ++ fresh] ++
    (match c.value with | some v => sent2 v | none => s.freeBytes (k + 1) 2)

/-- A candidate that stands for a station has the freshness of its record (R129). -/
def Candidate.hasRecord (c : Candidate) : Bool := c.addr != 15

/-- Item 7 (R137). -/
def State.item7 (s : State) : List Byte :=
  let own := s.ownCandidate
  let d := s.driveCandidate
  let q := s.peerCandidates
  let u := s.pvu.used
  sent2 s.pvu.speed ++ sent1 (speedCode s.pvu.speedStatus) ++ sent2 (timerMs s.pvu.speedHold) ++
    s.sentCandidate 0 own own.value.isSome u.own ++ s.sentCandidate 4 d d.hasRecord u.drive ++
    s.sentCandidate 8 q.1 q.1.hasRecord u.peer1 ++ s.sentCandidate 12 q.2 q.2.hasRecord u.peer2 ++
    s.sentInt 16 s.pvu.view ++ sent1 (viewCode s.pvu.viewStatus) ++ sent2 (timerMs s.pvu.viewHold)

/-- A flags byte, bit 0 first. -/
def flagsByte : List Bool → Nat
  | [] => 0
  | b :: l => b.toNat + 2 * flagsByte l

/-- The join ramp and its stamp age (R175). -/
def State.sentRamp (s : State) : List Byte :=
  match s.tsu.ramp with
  | .idle => sent1 0 ++ sent2 0
  | .running st => sent1 1 ++ sent2 (s.ageMs st)
  | .complete => sent1 2 ++ sent2 0

/-- Item 8 in a tilt role (R175). -/
def State.item8Tilt (s : State) : List Byte :=
  let u := s.tsu
  s.sentInt 0 u.tauD ++ sent1 u.wTh ++ sent1 u.wJoin ++ sent1 u.w ++ sent1 u.wP ++ s.sentInt 1 u.limit ++
    s.sentInt 2 u.share ++ sent2 u.factor ++ s.sentInt 3 u.tauO ++ s.sentRamp ++
    sent1 (flagsByte [u.saturated, u.disagree, u.outlier, u.partnerAbsent]) ++ sent1 u.disagreeRun ++
    sent1 u.agreeRun ++ sent1 u.voteRun

/-- Item 8 in the STEER role (R175). -/
def State.item8Steer (s : State) : List Byte :=
  let u := s.slu
  s.sentInt 0 u.gain ++ s.sentInt 1 u.tauA ++ sent1 u.runA ++
    sent1 (if (s.addrOf .tiltB).isNone then 0 else u.runB) ++ s.sentInt 2 (u.phiTilt.getD 0) ++ s.sentInt 3 u.tauC ++
    s.sentInt 4 u.tauS ++ sent1 (flagsByte [u.saturated, u.coupling, u.softStop, u.outlier, u.phiTilt.isSome]) ++
    sent1 u.voteRun

/-! ## The answer to a QUERY (R174) -/

/-- The item byte, page times 16 plus the item; free when that is no byte (log entry 4). -/
def State.itemByte (s : State) (item page : Byte) : Byte :=
  if page.toNat * 16 + item.toNat ≤ 255 then BitVec.ofNat 8 (page.toNat * 16 + item.toNat)
  else Config.freeByte (s.free + 63)

/-- A fill of the REPORT slot; the running number of free values moves past those a reply may use. -/
def State.reply (s : State) (payload : List Byte) : State := { s.fill .report payload with free := s.free + 64 }

/-- Whether the SR acts on a QUERY or CLEAR: from LISTEN to DORMANT, and not while a restart is pending (R174, R176, R178). -/
def State.serves (s : State) : Bool := s.nsc.node.live && !s.sr.restartPending

/-- The answer to a QUERY: DONE with data, BAD_ITEM with none (R174). -/
def State.answer (s : State) (item index page : Byte) (data : Option (List Byte)) : State :=
  match data with
  | some d => s.reply ([s.itemByte item page, index, 0] ++ d)
  | none => s.reply [s.itemByte item page, index, 3]

/-- A QUERY taken (R174): its data is read when it is answered. -/
def State.query (s : State) (i : Instr) (item index page : Byte) (data : State → Option (List Byte)) : State :=
  let s := s.taken i
  if s.serves then s.answer item index page (data s) else s

/-- The data of an item that has page 0 only (R174). -/
def onPage0 (page : Byte) (d : List Byte) : Option (List Byte) := if page = 0 then some d else none

/-- The data of an item that has pages 0 and 1 (R174). -/
def onPages (page : Byte) (d0 d1 : List Byte) : Option (List Byte) :=
  if page = 0 then some d0 else if page = 1 then some d1 else none

/-! ## The actions of a CLEAR (R176, R177) -/

/-- Whether the cause of a latched condition is present (R176). -/
def State.causePresent (s : State) : Condition → Bool
  | .overlean => decide (0 < s.le.overCount)
  | .voteOutlier => if s.role = .steer then s.slu.outlier else s.tsu.outlier
  | .sensorFailed => s.channel1.state == .failed || s.channel2.state == .failed
  | .bridgeFault => s.pins.bfltLow
  | .brakeStuck => s.bcu.state == .stuck
  | _ => false

/-- The latches without those whose cause is not present; an event condition goes with its latch (R140, R176). -/
def State.clearLatches (s : State) : State :=
  let l := CondSet.ofPred (fun c => s.nsc.latches.has c && s.causePresent c)
  (s.setNsc { s.nsc with
    latches := l
    present := CondSet.ofPred (fun c => s.nsc.present.has c && !(isEvent c && !l.has c)) }).evalRejoin

/-- The reply to a CLEAR: item byte 1, the action, the result, and item 1 as it stands (R176). -/
def State.replyClear (s : State) (action result : Byte) : State := s.reply ([1, action, result] ++ s.item1)

/-- Whether a restart is admitted (R177). -/
def State.restartAdmitted (s : State) : Bool :=
  (s.pvu.speedStatus.heard || s.nsc.node.tracking) && decide (s.pvu.speed < s.prm.vStand)

/-! ## The commands -/

/-- QUERY_NODE_STATE (R154). -/
def execQueryNodeState (index page : Byte) (s : State) (h : ServiceHead := .none) : Out :=
  .next (s.query (.queryNodeState index page h) 1 index page (fun s => onPage0 page s.item1))

/-- QUERY_PEER_ROW (R137): an index of 15 or above is BAD_ITEM. -/
def execQueryPeerRow (index page : Byte) (s : State) (h : ServiceHead := .none) : Out :=
  .next (s.query (.queryPeerRow index page h) 2 index page (fun s =>
    if index.toNat < 15 then onPages page (s.item2a index.toNat) (s.item2b index.toNat) else none))

/-- QUERY_STACK (R43). -/
def execQueryStack (index page : Byte) (s : State) (h : ServiceHead := .none) : Out :=
  .next (s.query (.queryStack index page h) 3 index page (fun s => onPages page (s.item3 0) (s.item3 2)))

/-- QUERY_RECORDS (R115). -/
def execQueryRecords (index page : Byte) (s : State) (h : ServiceHead := .none) : Out :=
  .next (s.query (.queryRecords index page h) 4 index page (fun s => onPages page s.item4a s.item4b))

/-- QUERY_IMAGE (R175): an index above 11 is BAD_ITEM. -/
def execQueryImage (index page : Byte) (s : State) (h : ServiceHead := .none) : Out :=
  .next (s.query (.queryImage index page h) 5 index page (fun s =>
    if index.toNat ≤ 11 then onPage0 page (s.item5 index.toNat) else none))

/-- QUERY_BRAKE (R80): BAD_ITEM of a STEER node. -/
def execQueryBrake (index page : Byte) (s : State) (h : ServiceHead := .none) : Out :=
  .next (s.query (.queryBrake index page h) 6 index page (fun s =>
    if s.role = .steer then none else onPage0 page s.item6))

/-- QUERY_CONSENSUS (R137). -/
def execQueryConsensus (index page : Byte) (s : State) (h : ServiceHead := .none) : Out :=
  .next (s.query (.queryConsensus index page h) 7 index page (fun s => onPage0 page s.item7))

/-- QUERY_UNIT (R175). -/
def execQueryUnit (index page : Byte) (s : State) (h : ServiceHead := .none) : Out :=
  .next (s.query (.queryUnit index page h) 8 index page (fun s =>
    onPage0 page (if s.role = .steer then s.item8Steer else s.item8Tilt)))

/-- QUERY_UNKNOWN_ITEM (R174). -/
def execQueryUnknownItem (item index page : Byte) (s : State) (h : ServiceHead := .none) : Out :=
  .next (s.query (.queryUnknownItem item index page h) item index page (fun _ => none))

/-- CLEAR_LATCHES (R176). -/
def execClearLatches (s : State) (h : ServiceHead := .none) : Out :=
  .next (let s := s.taken (.clearLatches h)
    if s.serves then s.clearLatches.replyClear 1 0 else s)

/-- CLEAR_RESTART (R177): the reply is formed first, then the flag is set. -/
def execClearRestart (s : State) (h : ServiceHead := .none) : Out :=
  .next (let s := s.taken (.clearRestart h)
    if s.serves then
      if s.restartAdmitted then { s.replyClear 2 0 with sr := { s.sr with restartPending := true } }
      else s.replyClear 2 1
    else s)

/-- CLEAR_UNKNOWN_ACTION (R176): nothing changes but the reply. -/
def execClearUnknownAction (action : Byte) (s : State) (h : ServiceHead := .none) : Out :=
  .next (let s := s.taken (.clearUnknownAction action h)
    if s.serves then s.replyClear action 3 else s)

end Sys2Proof.Machine
end

