-- ==== Sys2Proof/Machine/Torque.lean ====
section
/-! DEFINITION. The torque share unit (chapter 3): the nine steps of an arrival and the node-state change. -/

namespace Sys2Proof.Machine

/-! ## Demand (R46, R47) -/

/-- The demand before its clamp (R46). -/
def State.demandRaw (s : State) (r : TargetRecord) : Int :=
  match s.mu.records.shaft.lastGood, s.mu.records.rate.lastGood with
  | some phi, some om => ((s.prm.kp : Int) * (r.phiT - phi) + (s.prm.kd : Int) * (r.omegaT - om)).fdiv 256
  | _, _ => 0

/-- τ_d (R47). -/
def State.demand (s : State) (r : TargetRecord) : Int := clampMag s.prm.tauMax (s.demandRaw r)

/-! ## Capability (R48 to R50) -/

/-- w_th (R48): 50 when the temperature record is FAILED or has had no good read. -/
def State.thermalCap (s : State) : Nat :=
  let r := s.mu.records.temp
  match r.state, r.lastGood with
  | .failed, _ => 50
  | _, none => 50
  | _, some t =>
    if t ≤ s.prm.td1 then 100
    else if s.prm.td2 ≤ t then 0
    else ((100 * (s.prm.td2 - t)).tdiv (s.prm.td2 - s.prm.td1)).toNat

/-- w_join (R49). -/
def State.joinCap (s : State) : Nat :=
  match s.tsu.ramp with
  | .idle => 0
  | .complete => 100
  | .running st => min 100 (100 * age s.clock st / (s.prm.tJoin * 1000))

/-- The ramp after an arrival: COMPLETE when w_join has reached 100 (R49). -/
def State.rampAfter (s : State) : JoinRamp :=
  match s.tsu.ramp with
  | .running st => if s.joinCap = 100 then .complete else .running st
  | x => x

/-- The own capability w (R50). -/
def State.capability (s : State) : Nat := if s.nsc.node.running then min s.thermalCap s.joinCap else 0

/-! ## The partner (R51, R52) -/

/-- w_p (R51). -/
def State.partnerWeight (s : State) : Nat :=
  match s.partnerContrib with
  | some (c, f) => if f.heard && c.running then c.w.toNat else 0
  | none => 0

/-- PARTNER_ABSENT as evaluated at an arrival (R52). -/
def State.partnerAbsentNow (s : State) : Bool :=
  match s.partner with
  | none => false
  | some a =>
    match s.contribAt a with
    | none => true
    | some (c, f) => !(f.heard && (c.running || c.nodeState == 6))

/-! ## DISAGREE (R60) -/

/-- The comparison, when it is made: whether it disagrees (R60). -/
def State.comparison (s : State) (tauD : Int) : Option Bool :=
  if s.nsc.node.running then
    match s.partnerContrib with
    | some (c, f) =>
      if f = .fresh ∧ c.running = true then some (decide (s.prm.tauTol < (tauD - c.tauD.toInt).natAbs)) else none
    | none => none
  else none

/-- DISAGREE and its two runs after a comparison (R60). -/
def disagreeStep (nX : Nat) (cmp : Option Bool) (present : Bool) (disRun agrRun : Nat) : Bool × Nat × Nat :=
  match cmp, present with
  | none, _ => (false, 0, 0)
  | some true, false => if nX ≤ disRun + 1 then (true, nX, 0) else (false, disRun + 1, agrRun)
  | some false, false => (false, 0, agrRun)
  | some false, true => if nX ≤ agrRun + 1 then (false, 0, 0) else (true, disRun, agrRun + 1)
  | some true, true => (true, disRun, 0)

/-! ## The share (R53 to R55) -/

/-- The share before its clamp (R53). -/
def shareRaw (tauD : Int) (w wP : Nat) : Int := if w + wP = 0 then 0 else nearestDiv (tauD * w) ((w + wP : Nat) : Int)

/-- L, halved under DISAGREE (R54). -/
def shareLimit (w tRated : Nat) (disagree : Bool) : Nat := if disagree then w * tRated / 100 / 2 else w * tRated / 100

/-! ## Release and output (R56 to R58) -/

/-- The release factor after an arrival (R56). -/
def factorAfter (p : Nat) (b : BrakeState) (f : Nat) : Nat :=
  match b with
  | .engaging | .engaged => f - 10 * p
  | .preload | .releasing | .released | .heldOff | .stuck => min 1000 (f + 20 * p)

/-- A PWM duty in thousandths for an output of a full scale (R57, R92). -/
def dutyOf (x full : Int) : Int := 500 + (400 * x).tdiv full

/-- The drive output of an arrival: enabled with a duty while running, low otherwise (R58, R92). -/
def State.driveOf (s : State) (duty : Int) : Drive :=
  if s.nsc.node.running then { dren := true, duty := some duty } else { dren := false, duty := none }

/-- The drive output taken low. -/
def Drive.low : Drive := { dren := false, duty := none }

/-! ## The arrival (R45) -/

/-- The TSU after steps 1 to 8, and the reports those steps make (R45). -/
def State.tsuStep (s : State) (r : TargetRecord) : Tsu × List Report :=
  let tauD := s.demand r
  let w := s.capability
  let wP := s.partnerWeight
  let absent := s.partnerAbsentNow
  let d := disagreeStep s.prm.nX (s.comparison tauD) s.tsu.disagree s.tsu.disagreeRun s.tsu.agreeRun
  let limit := shareLimit w s.prm.tRated d.1
  let raw := shareRaw tauD w wP
  let share := clampMag limit raw
  let f := factorAfter s.prm.p s.bcu.state s.tsu.factor
  let v := voteStep s.prm.nVote (s.outlierTest r.phiT) s.tsu.voteRun s.tsu.outlier
  ({ tauD := tauD, wTh := s.thermalCap, wJoin := s.joinCap, w := w, wP := wP, limit := limit, share := share,
     saturated := tauD != s.demandRaw r || share != raw, factor := f, tauO := (share * f).tdiv 1000,
     ramp := s.rampAfter, disagree := d.1, disagreeRun := d.2.1, agreeRun := d.2.2, voteRun := v.1, outlier := v.2.1,
     partnerAbsent := absent },
   (if absent != s.tsu.partnerAbsent then [(.partnerAbsent, absent)] else []) ++
     (if d.1 != s.tsu.disagree then [(.disagree, d.1)] else []) ++ v.2.2)

/-- The CONTRIB of a tilt role (R59), from the state whose TSU has made its arrival. -/
def State.tiltContrib (s : State) (r : TargetRecord) (reports : List Report) : Contrib :=
  s.contribFrame r reports (s.mu.records.shaft.lastGood.getD 0) s.tsu.tauD s.tsu.share s.tsu.w s.tsu.saturated
    s.bcu.driver (BitVec.ofNat 2 (switchCode s.bcu.switch))
    (match s.tsu.ramp with | .running _ => true | _ => false)

/-- One arrival at the TSU, in its nine steps (R45). -/
def State.tsuArrival (s : State) (r : TargetRecord) : State :=
  let q := s.tsuStep r
  let t := { s with tsu := q.1, drive := s.driveOf (dutyOf q.1.tauO s.prm.tRated) }
  (t.handReports q.2).contribStep (t.tiltContrib r q.2)

/-! ## The node-state change (R49, R58) -/

/-- The join ramp after a node-state change (R49). -/
def rampChange (old new : NodeState) (now : Stamp) (x : JoinRamp) : JoinRamp :=
  match old, new with
  | .listen, .active => .running now
  | .active, .dormant => .complete
  | .dormant, .active => .complete
  | .active, .free | .active, .clamped | .degraded, .free | .degraded, .clamped | .dormant, .free
  | .dormant, .clamped => .idle
  | _, .start => .idle
  | _, _ => x

/-- The drive output after a node-state change: low when running is left (R58, R93). -/
def driveChange (old new : NodeState) (d : Drive) : Drive := if old.running && !new.running then .low else d

/-- Node-state changes taken by the TSU, in their order (R49, R58). -/
def State.tsuChanges (s : State) (l : List (NodeState × NodeState)) : State :=
  { s with tsu := { s.tsu with ramp := l.foldl (fun x q => rampChange q.1 q.2 s.clock x) s.tsu.ramp }
           drive := l.foldl (fun d q => driveChange q.1 q.2 d) s.drive }

/-- The change that a hand-off to the TSU is, if it is one. -/
def tsuChange : Instr → Option (NodeState × NodeState)
  | .nodeStateChangeTsu old new => some (old, new)
  | _ => none

/-- The TSU takes the changes that wait for it (R64, log entry 24). -/
def State.takeTsuChanges (s : State) : State :=
  { s.tsuChanges (s.waitingChanges tsuChange) with handed := s.handed.filter (fun i => (tsuChange i).isNone) }

/-! ## The commands -/

/-- NEW_TARGET_ARRIVAL_TSU (R45): there is a TSU in the tilt roles, and arrivals occur from LISTEN to DORMANT. The arrival reads
the node state as it stands, so the TSU has first taken the changes that led to it, in the order handed: an arrival that
reads FREE finds the ramp IDLE, one that reads ACTIVE after LISTEN finds it RUNNING (R64, log entry 24). -/
def execNewTargetArrivalTsu (r : TargetRecord) (s : State) : Out :=
  .next (let s := s.taken (.newTargetArrivalTsu r)
    if s.role.isTilt && s.nsc.node.live then s.takeTsuChanges.tsuArrival r else s)

/-- NODE_STATE_CHANGE_TSU (R49, R58). -/
def execNodeStateChangeTsu (old new : NodeState) (s : State) : Out :=
  .next (let s := s.taken (.nodeStateChangeTsu old new)
    if s.role.isTilt then s.tsuChanges [(old, new)] else s)

end Sys2Proof.Machine
end

