-- ==== Sys2Proof/Machine/Steer.lean ====
section
/-! DEFINITION. The steer law unit (chapter 5): the six steps of an arrival, the node-state change and the RIDER fill. -/

namespace Sys2Proof.Machine

/-! ## Assist (R85, R86) -/

/-- A, the assist table at v (R85). -/
def State.assistGain (s : State) : Int := interp s.prm.assist s.pvu.speed

/-- τ_a (R86). -/
def State.assistTerm (s : State) : Int :=
  match s.mu.records.torque.lastGood with
  | some tau => (s.assistGain * tau).fdiv 256
  | none => 0

/-! ## Coupling (R87 to R89) -/

/-- The CONTRIB of a tilt role, when its row is usable: FRESH, reporting ACTIVE or DEGRADED (R87). -/
def State.usableRow (s : State) (role : Role) : Option Contrib :=
  (s.contribOf role).bind (fun q => if q.2 = .fresh ∧ q.1.running = true then some q.1 else none)

/-- φ_m,tilt (R87). -/
def State.tiltLean (s : State) : Option Int :=
  meanFloor (([Role.tiltA, Role.tiltB].filterMap s.usableRow).map (fun c => c.phiM.toInt))

/-- A saturation run after an arrival (R88). -/
def State.satRun (s : State) (role : Role) (run : Nat) : Nat :=
  match s.usableRow role with
  | some c => if c.saturated then min (run + 1) s.prm.nC else 0
  | none => 0

/-- The coupling condition, the runs as updated at this arrival (R89). -/
def State.couplingActive (s : State) (runA runB : Nat) : Bool :=
  s.nsc.node.running && decide (s.prm.vCouple ≤ s.pvu.speed) &&
    ((s.usableRow .tiltA).isSome || (s.usableRow .tiltB).isSome) &&
    (!(s.usableRow .tiltA).isSome || runA == s.prm.nC) && (!(s.usableRow .tiltB).isSome || runB == s.prm.nC)

/-- τ_c (R89). -/
def State.couplingTerm (s : State) (r : TargetRecord) (active : Bool) : Int :=
  match active, s.tiltLean with
  | true, some phi => -(((s.prm.kC : Int) * (r.phiT - phi)).fdiv 256)
  | _, _ => 0

/-! ## Total and soft stop (R90, R91) -/

/-- Whether the soft stop acts on a torque (R91). -/
def State.softStops (s : State) (tau : Int) : Bool :=
  match s.mu.records.angle.lastGood with
  | some d =>
    (decide ((s.prm.deltaSoft : Int) ≤ d) && decide (0 < tau)) || (decide (d ≤ -(s.prm.deltaSoft : Int)) && decide (tau < 0))
  | none => false

/-! ## The arrival (R83) -/

/-- The SLU after steps 1 to 5, and the reports of the vote (R83). -/
def State.sluStep (s : State) (r : TargetRecord) : Slu × List Report :=
  let runA := s.satRun .tiltA s.slu.runA
  let runB := s.satRun .tiltB s.slu.runB
  let active := s.couplingActive runA runB
  let tauC := s.couplingTerm r active
  let sum := s.assistTerm + tauC
  let tau := clampMag s.prm.tauSMax sum
  let stop := s.softStops tau
  let v := voteStep s.prm.nVote (s.outlierTest r.phiT) s.slu.voteRun s.slu.outlier
  ({ gain := s.assistGain, tauA := s.assistTerm, runA := runA, runB := runB, phiTilt := s.tiltLean, coupling := active,
     tauC := tauC, tauS := if stop then 0 else tau, saturated := tau != sum, softStop := stop, voteRun := v.1,
     outlier := v.2.1 },
   v.2.2)

/-- The CONTRIB of the STEER role (R95), from the state whose SLU has made its arrival. -/
def State.steerContrib (s : State) (r : TargetRecord) (reports : List Report) : Contrib :=
  s.contribFrame r reports (s.measured.getD 0) s.slu.tauS s.slu.tauC (if s.nsc.node.running then 100 else 0)
    s.slu.saturated false 0 false

/-- One arrival at the SLU, in its six steps (R83). -/
def State.sluArrival (s : State) (r : TargetRecord) : State :=
  let q := s.sluStep r
  let t := { s with slu := q.1, drive := s.driveOf (dutyOf q.1.tauS s.prm.tauSMax) }
  (t.handReports q.2).contribStep (t.steerContrib r q.2)

/-- Node-state changes taken by the SLU, in their order (R93). -/
def State.sluChanges (s : State) (l : List (NodeState × NodeState)) : State :=
  { s with drive := l.foldl (fun d q => driveChange q.1 q.2 d) s.drive }

/-- The change that a hand-off to the SLU is, if it is one. -/
def sluChange : Instr → Option (NodeState × NodeState)
  | .nodeStateChangeSlu old new => some (old, new)
  | _ => none

/-- The SLU takes the changes that wait for it (R98, log entry 24). -/
def State.takeSluChanges (s : State) : State :=
  { s.sluChanges (s.waitingChanges sluChange) with handed := s.handed.filter (fun i => (sluChange i).isNone) }

/-- NEW_TARGET_ARRIVAL_SLU (R83): there is an SLU in the STEER role, and arrivals occur while the LE runs. As at the TSU, the
changes that led to the node state it reads are taken first (R98, log entry 24). -/
def execNewTargetArrivalSlu (r : TargetRecord) (s : State) : Out :=
  .next (let s := s.taken (.newTargetArrivalSlu r)
    if s.role = .steer ∧ s.nsc.node.live = true then s.takeSluChanges.sluArrival r else s)

/-- NODE_STATE_CHANGE_SLU (R93). -/
def execNodeStateChangeSlu (old new : NodeState) (s : State) : Out :=
  .next (let s := s.taken (.nodeStateChangeSlu old new)
    if s.role = .steer then s.sluChanges [(old, new)] else s)

/-! ## RIDER (R96, R97) -/

/-- The RIDER frame of a sweep notice for a last good handlebar angle (R97). -/
def State.riderFrame (s : State) (delta : Int) : Rider :=
  let q := s.mu.records.torque
  { delta := fitHalf (Config.freeHalf s.free) delta,
    tauH := fitHalf (Config.freeHalf (s.free + 1)) (if q.state = .failed then 0 else q.lastGood.getD 0),
    angleState := BitVec.ofNat 4 (recordCode s.mu.records.angle.state),
    torqueState := BitVec.ofNat 4 (recordCode q.state), nodeState := BitVec.ofNat 8 (nodeCode s.nsc.node) }

/-- A fill of the RIDER slot, mirrored in the own row (R96, R122). -/
def State.fillRider (s : State) (r : Rider) : State :=
  let t := s.fill .rider r.toBytes
  let own := t.cl.ownAddr.toNat
  { t.setRow own { t.row own with rider := some (r, t.clock) } with free := s.free + 2 }

/-- The RIDER fill of a sweep notice: none when the angle record is FAILED or has had no good read (R96). -/
def State.riderStep (s : State) : State :=
  match s.mu.records.angle.state, s.mu.records.angle.lastGood with
  | .failed, _ => s
  | _, none => s
  | _, some d => s.fillRider (s.riderFrame d)

/-- SWEEP_NOTICE_SLU (R96): in every node state except START and HALTED. -/
def execSweepNoticeSlu (n : SweepNotice) (s : State) : Out :=
  .next (let s := s.taken (.sweepNoticeSlu n)
    if s.role = .steer ∧ s.nsc.node.live = true then s.riderStep else s)

end Sys2Proof.Machine
end

