-- ==== Sys2Proof/Machine/Dispatch.lean ====
section
/-! DEFINITION. The dispatch: one arm per command. -/

namespace Sys2Proof.Machine

def exec (i : Instr) (s : State) : Host.Outcome State Fault Refusal :=
  match i with
  | .fullReset ads bks1Closed bks2Closed bfltLow => Sys2Proof.Machine.execFullReset ads bks1Closed bks2Closed bfltLow s
  | .restart => Sys2Proof.Machine.execRestart s
  | .imageReadComplete image => Sys2Proof.Machine.execImageReadComplete image s
  | .periodExpiry => Sys2Proof.Machine.execPeriodExpiry s
  | .overrideRequest src role tag kind angle count => Sys2Proof.Machine.execOverrideRequest src role tag kind angle count s
  | .releaseRequest src tag role => Sys2Proof.Machine.execReleaseRequest src tag s role
  | .autoLockDwellExpiry => Sys2Proof.Machine.execAutoLockDwellExpiry s
  | .speedStatusChangeLe value status => Sys2Proof.Machine.execSpeedStatusChangeLe value status s
  | .nodeStateChangeLe old new => Sys2Proof.Machine.execNodeStateChangeLe old new s
  | .newTargetArrivalTsu r => Sys2Proof.Machine.execNewTargetArrivalTsu r s
  | .nodeStateChangeTsu old new => Sys2Proof.Machine.execNodeStateChangeTsu old new s
  | .newTargetArrivalSlu r => Sys2Proof.Machine.execNewTargetArrivalSlu r s
  | .nodeStateChangeSlu old new => Sys2Proof.Machine.execNodeStateChangeSlu old new s
  | .sweepNoticeSlu n => Sys2Proof.Machine.execSweepNoticeSlu n s
  | .switchChange bks1Closed bks2Closed => Sys2Proof.Machine.execSwitchChange bks1Closed bks2Closed s
  | .tBrakeExpiry => Sys2Proof.Machine.execTBrakeExpiry s
  | .tPreloadExpiry => Sys2Proof.Machine.execTPreloadExpiry s
  | .sweepNoticeBcu n => Sys2Proof.Machine.execSweepNoticeBcu n s
  | .topChangeNoticeBcu top => Sys2Proof.Machine.execTopChangeNoticeBcu top s
  | .speedStatusChangeBcu value status => Sys2Proof.Machine.execSpeedStatusChangeBcu value status s
  | .nodeStateChangeBcu old new => Sys2Proof.Machine.execNodeStateChangeBcu old new s
  | .sweepTimerExpiry => Sys2Proof.Machine.execSweepTimerExpiry s
  | .readyEvent word => Sys2Proof.Machine.execReadyEvent word s
  | .readyTimeout => Sys2Proof.Machine.execReadyTimeout s
  | .conversionComplete temp => Sys2Proof.Machine.execConversionComplete temp s
  | .wheelEdge => Sys2Proof.Machine.execWheelEdge s
  | .frameDone => Sys2Proof.Machine.execFrameDone s
  | .sweepNoticePvu n => Sys2Proof.Machine.execSweepNoticePvu n s
  | .handlebarRampStep => Sys2Proof.Machine.execHandlebarRampStep s
  | .speedHoldExpiry => Sys2Proof.Machine.execSpeedHoldExpiry s
  | .handlebarHoldExpiry => Sys2Proof.Machine.execHandlebarHoldExpiry s
  | .rowSweepExpiry => Sys2Proof.Machine.execRowSweepExpiry s
  | .conditionReport c present => Sys2Proof.Machine.execConditionReport c present s
  | .haltHandoff src reason detail role => Sys2Proof.Machine.execHaltHandoff src reason detail s role
  | .frameNotice src kind => Sys2Proof.Machine.execFrameNotice src kind s
  | .wakeCauseReport => Sys2Proof.Machine.execWakeCauseReport s
  | .sweepNoticeNsc n => Sys2Proof.Machine.execSweepNoticeNsc n s
  | .speedStatusChangeNsc value status => Sys2Proof.Machine.execSpeedStatusChangeNsc value status s
  | .viewChange status => Sys2Proof.Machine.execViewChange status s
  | .topChangeNoticeNsc top => Sys2Proof.Machine.execTopChangeNoticeNsc top s
  | .bfltChange low => Sys2Proof.Machine.execBfltChange low s
  | .periodNotice => Sys2Proof.Machine.execPeriodNotice s
  | .rejoinTimerExpiry => Sys2Proof.Machine.execRejoinTimerExpiry s
  | .dormantDwellExpiry => Sys2Proof.Machine.execDormantDwellExpiry s
  | .dataCharacter b => Sys2Proof.Machine.execDataCharacter b s
  | .openMark b => Sys2Proof.Machine.execOpenMark b s
  | .runMark n => Sys2Proof.Machine.execRunMark n s
  | .shutMark => Sys2Proof.Machine.execShutMark s
  | .unnamedMark b => Sys2Proof.Machine.execUnnamedMark b s
  | .framingError => Sys2Proof.Machine.execFramingError s
  | .lineBreak => Sys2Proof.Machine.execLineBreak s
  | .frameTimeout => Sys2Proof.Machine.execFrameTimeout s
  | .idle => Sys2Proof.Machine.execIdle s
  | .frameSent => Sys2Proof.Machine.execFrameSent s
  | .arbitrationLoss => Sys2Proof.Machine.execArbitrationLoss s
  | .readbackMismatch => Sys2Proof.Machine.execReadbackMismatch s
  | .abortBreakEnd => Sys2Proof.Machine.execAbortBreakEnd s
  | .queryNodeState index page h => Sys2Proof.Machine.execQueryNodeState index page s h
  | .queryPeerRow index page h => Sys2Proof.Machine.execQueryPeerRow index page s h
  | .queryStack index page h => Sys2Proof.Machine.execQueryStack index page s h
  | .queryRecords index page h => Sys2Proof.Machine.execQueryRecords index page s h
  | .queryImage index page h => Sys2Proof.Machine.execQueryImage index page s h
  | .queryBrake index page h => Sys2Proof.Machine.execQueryBrake index page s h
  | .queryConsensus index page h => Sys2Proof.Machine.execQueryConsensus index page s h
  | .queryUnit index page h => Sys2Proof.Machine.execQueryUnit index page s h
  | .queryUnknownItem item index page h => Sys2Proof.Machine.execQueryUnknownItem item index page s h
  | .clearLatches h => Sys2Proof.Machine.execClearLatches s h
  | .clearRestart h => Sys2Proof.Machine.execClearRestart s h
  | .clearUnknownAction action h => Sys2Proof.Machine.execClearUnknownAction action s h

end Sys2Proof.Machine
end

