-- ==== Sys2Proof/Machine/Tick.lean ====
section
/-! DEFINITION. Time: what a tick of one microsecond does when nothing waits (log entry 3), and the levels the output pins
show. -/

namespace Sys2Proof.Machine

/-! ## The tick -/

/-- A timer after one µs: a stopped one stays stopped, and one at its limit waits there. -/
def Timer.bump (t : Timer) (limit : Nat) : Timer := t.map (fun n => if n < limit then n + 1 else n)

/-- Whether one more µs brings a timer to its limit. -/
def Timer.expires (t : Timer) (limit : Nat) : Bool :=
  match t with
  | some n => n + 1 == limit
  | none => false

/-- The brake timer's limit and the time run, where there is a BCU (log entry 21). -/
def State.brakeTimer (s : State) (l : BrakeLimit) : Timer :=
  if s.hasBcu then (match s.bcu.timer with | some (m, n) => if m = l then some n else none | none => none) else none

/-- The time the frame in processing has been processed (R123). -/
def State.frameTimer (s : State) : Timer := s.pvu.processing.map (fun q => q.2)

/-- Every timer of the part with its limit in µs and the command of its expiry (R2, R39, R66, R101, R103, R121, R123, R131,
R134, R149, R150, R169). DESIGN CHOICE (log entry 33): where two expire in the same µs, which the rules let come in either order
(R116 of the period and the sweep expiry), they are queued in the order of this list. -/
def State.timers (s : State) : List (Timer × Nat × Instr) :=
  [(s.le.periodTimer, s.prm.p * 1000, .periodExpiry), (s.le.dwell, s.prm.tStand * 1000, .autoLockDwellExpiry),
   (s.brakeTimer .brake, Config.tBrake, .tBrakeExpiry), (s.brakeTimer .preload, Config.tPreload, .tPreloadExpiry),
   (s.mu.sweepTimer, s.prm.p * 1000, .sweepTimerExpiry), (s.mu.readyTimer, Config.tReady, .readyTimeout),
   (s.frameTimer, Config.tFrame, .frameDone), (s.pvu.speedHold, s.prm.hV * 1000, .speedHoldExpiry),
   (s.pvu.viewHold, s.prm.hDelta * 1000, .handlebarHoldExpiry), (s.pvu.rowSweep, Config.tRow, .rowSweepExpiry),
   (s.nsc.rejoin, Config.tRejoin, .rejoinTimerExpiry),
   (s.nsc.dormantDwell, s.prm.tDormant * 1000, .dormantDwellExpiry),
   (s.bi.abortTime, Config.tAbort, .abortBreakEnd)]

/-- The expiry commands of the next µs, in the order of `timers` (log entry 33). -/
def State.expiries (s : State) : List Instr :=
  s.timers.filterMap (fun q => if Timer.expires q.1 q.2.1 then some q.2.2 else none)

/-- The level read on SBS at the centre of a bit time, `others` being the level that the other stations leave on the line
(R155): the line reads 0 where the own SBD drives 0 and `others` where it is released. In a bit of the frame in flight it is the
level driven, since a bit read otherwise is an arbitration loss or a readback mismatch, a command of its own (R168, R169, log
entry 18). A BI that is off does not read SBS. -/
def Bi.lineLevel (b : Bi) (others : Bool) : Bool :=
  if b.rx = .off then b.sbs else if b.tx = .sending then b.sbd else b.sbd && others

/-- One µs of the bus interface, a bit time (R155): the frame in flight moves to its next bit, a break runs on, and SBS is
read. -/
def Bi.bitTime (b : Bi) (others : Bool) : Bi :=
  let b := { b with inFlight := b.inFlight.map InFlight.nextBit, abortTime := Timer.bump b.abortTime Config.tAbort }
  { b with sbs := b.lineLevel others }

/-- One µs: the timestamp counter and every running timer advance, the expiries are commands in the queue, and the line is read
at the free level of the other stations (log entry 18). -/
def State.tick (s : State) : State :=
  { s with
    clock := s.clock + 1
    le := { s.le with periodTimer := Timer.bump s.le.periodTimer (s.prm.p * 1000),
                      dwell := Timer.bump s.le.dwell (s.prm.tStand * 1000) }
    bcu := { s.bcu with
      timer := if s.hasBcu then s.bcu.timer.map (fun q => (q.1, if q.2 < q.1.us then q.2 + 1 else q.2)) else s.bcu.timer }
    mu := { s.mu with sweepTimer := Timer.bump s.mu.sweepTimer (s.prm.p * 1000),
                      readyTimer := Timer.bump s.mu.readyTimer Config.tReady }
    pvu := { s.pvu with
      processing := s.pvu.processing.map (fun q => (q.1, if q.2 < Config.tFrame then q.2 + 1 else q.2))
      speedHold := Timer.bump s.pvu.speedHold (s.prm.hV * 1000)
      viewHold := Timer.bump s.pvu.viewHold (s.prm.hDelta * 1000)
      rowSweep := Timer.bump s.pvu.rowSweep Config.tRow }
    nsc := { s.nsc with rejoin := Timer.bump s.nsc.rejoin Config.tRejoin,
                        dormantDwell := Timer.bump s.nsc.dormantDwell (s.prm.tDormant * 1000) }
    bi := s.bi.bitTime (Config.otherLevel s.free)
    pending := s.pending ++ s.expiries
    free := s.free + 1 }

/-! ## The output pins (scope, section 4) -/

/-- The levels of the outputs that hold one. -/
structure Outputs where
  /-- DREN. -/
  dren : Bool
  /-- PWMO: the duty in thousandths, or low. -/
  pwmo : Option Int
  /-- BKC: the coil driver; a STEER node leaves it unconnected. -/
  bkc : Bool
  /-- FLT, asserted. -/
  flt : Bool
  /-- ISEL, asserted. -/
  isel : Bool
  /-- SSEL0..SSEL2: the one asserted, if any. -/
  ssel : Option Nat
  /-- SBD held dominant by an abort break. -/
  sbdBreak : Bool
  /-- SBD: the level it puts on the line, true released. -/
  sbd : Bool
  deriving DecidableEq, Repr

/-- The select a sweep holds (R103, R106). -/
def Sweep.select : Sweep → Option Nat
  | .idle => none
  | .running1 => some 0
  | .running2 => some 1
  | .running3 => some 2

/-- The outputs as they stand. The drive is shown only while the node state is ACTIVE or DEGRADED (R58, log entry 20). -/
def State.outputs (s : State) : Outputs :=
  { dren := s.nsc.node.running && s.drive.dren, pwmo := if s.nsc.node.running then s.drive.duty else none,
    bkc := s.hasBcu && s.bcu.driver, flt := s.nsc.flt, isel := s.cl.phase == .reading, ssel := s.mu.sweep.select,
    sbdBreak := s.bi.tx == .aborting, sbd := s.bi.sbd }

end Sys2Proof.Machine
end

