-- ==== Sys2Proof/Safety.lean ====
section
/-! DEFINITION. What a sound state is: the relations between fields that the rules give, one predicate per block. They hold at
reset and every step keeps them, so that every state a run reaches has them. -/

namespace Sys2Proof.Machine

/-! ## Characters of the line, taken one by one -/

/-- The state after characters taken in order. -/
def takeChars : List LineChar → State → Option State
  | [], s => some s
  | c :: l, s =>
    match exec c.command s with
    | .next t => takeChars l t
    | _ => none

/-! ## The override stack (R26, R27, R34, R35) -/

/-- The kind and the angle of an entry agree, and its count is 1..65535 or FOREVER with held 0..65535 (R27). -/
def Entry.sound (e : Entry) : Prop :=
  (e.angle = none ↔ e.kind = .upright) ∧
    match e.count with
    | .finite n => 1 ≤ n ∧ n ≤ 65535
    | .forever h => h ≤ 65535

/-- At most four entries, their tags distinct, the top never marked release-pending, every entry sound. -/
def soundStack (l : List Entry) : Prop :=
  l.length ≤ 4 ∧ (l.map (fun e => e.tag)).Nodup ∧ (∀ e ∈ l.head?, e.pending = false) ∧ ∀ e ∈ l, e.sound

/-! ## The receive queue (R164) -/

/-- At most eight frames, and at most one of a given source and periodic kind. -/
def soundQueue (q : List RxFrame) : Prop :=
  q.length ≤ 8 ∧ ((q.filter (fun f => f.kind.periodic)).map (fun f => (f.src, f.kind))).Nodup

/-! ## The brake (R66, R67, R72, R78) -/

/-- The brake states in which the coil is on (R67). -/
def BrakeState.coilOn : BrakeState → Bool
  | .released | .releasing => true
  | _ => false

/-- The brake states that an ON demand leads to (R71, R72). -/
def BrakeState.wanted : BrakeState → Bool
  | .released | .releasing | .preload => true
  | _ => false

/-- The limit the brake timer runs toward in a brake state (R71, R72, R78). -/
def BrakeState.limit : BrakeState → Option BrakeLimit
  | .engaging | .releasing => some .brake
  | .preload => some .preload
  | _ => none

/-- The driver, the demand and the timer agree with the brake state. -/
def Bcu.sound (b : Bcu) : Prop :=
  (b.state = .stuck → b.driver = b.demand) ∧
    (b.state ≠ .stuck → b.driver = b.state.coilOn ∧ b.demand = b.state.wanted) ∧
    b.timer.map (fun q => q.1) = b.state.limit

/-! ## The bus interface (R161, R166, R167, R170) -/

/-- The expanded count is within its limit, and a pending RUN asks for 2..17 copies. -/
def Receiver.sound : Receiver → Prop
  | .inFrame a => a.bytes.length ≤ 35 ∧ ∀ n ∈ a.run, 2 ≤ n ∧ n ≤ 17
  | _ => True

/-- A kind that has a transmit slot. -/
def FrameKind.hasSlot (k : FrameKind) : Bool := k == .halt || k == .rider || k == .contrib || k == .report

/-- An abort count of 0..2. -/
def soundSlot (x : Option Slot) : Prop := ∀ f ∈ x, f.aborts ≤ 2

/-- The transmitter's state agrees with the frame in flight, the break and the slots. -/
def Bi.soundTx (b : Bi) : Prop :=
  (b.tx = .sending ↔ b.inFlight.isSome) ∧ (b.tx = .aborting ↔ b.abortTime.isSome) ∧
    (b.tx = .waitGap → b.slots.lowest.isSome) ∧ (b.tx = .idle ∨ b.tx = .off → b.slots.lowest = none) ∧
    (∀ f ∈ b.inFlight, FrameKind.hasSlot f.kind = true ∧ f.aborts ≤ 2 ∧ f.begun ≤ 11 * f.chars.length) ∧
    soundSlot b.slots.halt ∧ soundSlot b.slots.rider ∧ soundSlot b.slots.contrib ∧ soundSlot b.slots.report

/-- The receiver and the transmitter are off in START and HALTED and on in every other state (R170). -/
def State.soundPower (s : State) : Prop :=
  (s.bi.rx = .off ↔ s.nsc.node.live = false) ∧ (s.bi.tx = .off ↔ s.nsc.node.live = false)

/-- The bus interface. -/
def State.soundBus (s : State) : Prop := s.bi.rx.sound ∧ s.bi.soundTx ∧ s.soundPower

/-! ## The measurement unit (R99, R102, R103, R111) -/

/-- The readings the sweep buffer holds in a sweep state (R102). -/
def Sweep.readings : Sweep → Nat
  | .idle => 0
  | .running1 => 0
  | .running2 => 1
  | .running3 => 2

/-- A sensor transaction waits for ready in the first two states of a sweep (R103). -/
def Sweep.waits : Sweep → Bool
  | .running1 => true
  | .running2 => true
  | _ => false

/-- The buffer holds the readings of the transactions that have ended, the ready timer runs exactly while a sensor transaction
waits, and the edge count is 0..2. -/
def Mu.sound (m : Mu) : Prop :=
  m.buffer.length = m.sweep.readings ∧ m.readyTimer.isSome = m.sweep.waits ∧ m.edgeCount ≤ 2

/-! ## Conditions and the fault line (R140, R142) -/

/-- An event condition is present for as long as its latch is set (R140). -/
def State.soundLatches (s : State) : Prop :=
  ∀ c, isEvent c = true → s.nsc.present.has c = s.nsc.latches.has c

/-- FLT is asserted in FREE, CLAMPED and HALTED and in no other state (R142). -/
def State.soundFault (s : State) : Prop := s.nsc.flt = s.nsc.node.faulted

/-! ## The rejoin timer (R149) -/

/-- The rejoin timer runs exactly in FREE and CLAMPED with no serious condition present and the OVERLEAN, HALT_TAKEN and
VOTE_OUTLIER latches clear. -/
def State.soundRejoin (s : State) : Prop :=
  s.nsc.rejoin.isSome = true ↔ (s.nsc.node = .free ∨ s.nsc.node = .clamped) ∧
    (∀ c, isSerious c = true → s.nsc.present.has c = false) ∧ s.nsc.latches.has .overlean = false ∧
    s.nsc.latches.has .haltTaken = false ∧ s.nsc.latches.has .voteOutlier = false

/-- The rejoin timer across an event of the NSC: after it the timer runs exactly under the conditions of R149, on from where it
stood, or from 0 where it starts, as at every change of the node state. -/
def rejoinRuns (s t : State) : Prop :=
  t.soundRejoin ∧ ∀ n, t.nsc.rejoin = some n → n = if t.nsc.node = s.nsc.node then s.nsc.rejoin.getD 0 else 0

/-! ## The dwells (R39, R150) -/

/-- The auto-lock dwell across an event that may change the stack and carries no speed (R39): a stack that stays leaves it as it
was, and after a change it runs exactly under its three conditions, for the speed of the latest speed-status change the LE has
taken (log entry 9), on from where it stood or from 0 where it starts. -/
def dwellRuns (s t : State) : Prop :=
  (t.le.stack = s.le.stack → t.le.dwell = s.le.dwell) ∧
    (t.le.stack ≠ s.le.stack →
      (t.le.dwell.isSome = true ↔ (s.le.speed.status.heard = true ∧ s.le.speed.value < s.prm.vStand) ∧
        (s.nsc.node = .active ∨ s.nsc.node = .degraded ∨ s.nsc.node = .dormant) ∧
        ∀ e ∈ t.le.stack, e.kind ≠ .park ∧ e.tag ≠ 240) ∧
      ∀ n, t.le.dwell = some n → n = s.le.dwell.getD 0)

/-- The dormant dwell across an event at which the NSC evaluates it (R150), for a speed: in a node that was ACTIVE and still is it
runs after it exactly under the five conditions, on from where it stood or from 0 where it starts; at a passage to another state
it is stopped; in every other case it stands as it was (log entry 12). -/
def dormantRuns (s t : State) (v : Nat) (st : SpeedStatus) : Prop :=
  (s.nsc.node = .active → t.nsc.node = .active →
    (t.nsc.dormantDwell.isSome = true ↔ t.nsc.topCopy = some .park ∧ st.heard = true ∧ v = 0 ∧ t.nsc.present = 0 ∧
      (t.role ≠ .steer → t.bcu.state = .engaged) ∧
      (t.role = .steer → ∀ r, r = .tiltA ∨ r = .tiltB → t.addrOf r ≠ none →
        ∃ c f, t.contribOf r = some (c, f) ∧ f.heard = true ∧ c.nodeState = 6)) ∧
    ∀ n, t.nsc.dormantDwell = some n → n = s.nsc.dormantDwell.getD 0) ∧
  (t.nsc.node ≠ s.nsc.node → t.nsc.node ≠ .active → t.nsc.dormantDwell = none) ∧
  (s.nsc.node ≠ .active → t.nsc.node = s.nsc.node ∨ t.nsc.node = .active → t.nsc.dormantDwell = s.nsc.dormantDwell)

/-! ## The drive (R56, R57, R58, R92) -/

/-- The duty stands in 100..900 thousandths and is presented exactly while DREN is raised; the release factor is 0..1000. -/
def State.soundDrive (s : State) : Prop :=
  (s.drive.dren = s.drive.duty.isSome) ∧ (∀ d ∈ s.drive.duty, 100 ≤ d ∧ d ≤ 900) ∧ s.tsu.factor ≤ 1000

/-! ## The counters with a stated range (R1, R26, R144, R145, R151) -/

/-- The over-lean counter is 0..3, the mismatch counter 0..50, the join count 0..24, the clear run 0..9 and the dormant send
count 0..49. -/
def State.soundCounts (s : State) : Prop :=
  s.le.overCount ≤ 3 ∧ s.le.mismatch ≤ 50 ∧ s.nsc.joinCount ≤ 24 ∧ s.nsc.clearRun ≤ 9 ∧ s.nsc.sendCount ≤ 49

/-- A sound state. -/
def State.sound (s : State) : Prop :=
  soundStack s.le.stack ∧ soundQueue s.bi.rfq ∧ s.bcu.sound ∧ s.mu.sound ∧ s.soundBus ∧ s.soundLatches ∧
    s.soundFault ∧ s.soundRejoin ∧ s.soundDrive ∧ s.soundCounts

end Sys2Proof.Machine
end

