-- ==== Sys2Proof/WellFormed.lean ====
section
/-! DEFINITION. Which commands are well formed: each operand within the values the rule of its row gives it. `exec` gives every
command its effect, well formed or not; the checks say which commands the part's world can give (log entry 8). -/

namespace Sys2Proof

/-- A station address, 0..14 (scope, section 2). -/
def Addr.isStation (a : Addr) : Bool := a != 15

/-- The source of an override or release request: a CONSOLE or a SERVICE (R162). -/
def Role.commands (r : Role) : Bool := r == .console || r == .service

/-- A consensus value, 0..2500 (R130). -/
def speedInRange (v : Nat) : Bool := decide (v ≤ 2500)

/-- A node-state change that the NSC hands on: to another state, and never to START, which only a reset enters (R142, R143). -/
def stateChangeWf (old new : NodeState) : Bool := old != new && new != .start

/-- A new-target record: the target within the largest envelope, the rate within ±30000, a depth of 0..4, and a top tag only
with a stack (R14, R16, R17, R26). -/
def TargetRecord.wf (r : TargetRecord) : Bool :=
  decide (r.phiT.natAbs ≤ 4500) && decide (r.omegaT.natAbs ≤ 30000) && decide (r.depth ≤ 4) &&
    (r.depth == 0) == (r.topTag == 0)

/-- A sweep notice: the three records of the role are never ABSENT (R100, R110), the wheel speed is 0..2500 (R112). -/
def SweepNotice.wf (n : SweepNotice) : Bool :=
  n.first != .absent && n.second != .absent && n.third != .absent &&
    (match n.wheelSpeed with | some v => speedInRange v | none => true)

/-- A top entry: UPRIGHT and only UPRIGHT has no angle (R27). -/
def TopView.wf (t : TopView) : Bool := (t.kind == .upright) == t.angle.isNone

/-- The conditions that another unit reports, with CONFIG_BAD, LINK_CONFLICT and QUEUE_OVERRUN only as present (R139, R140). -/
def reportWf : Condition → Bool → Bool
  | .configBad, b | .linkConflict, b | .queueOverrun, b => b
  | .overlean, _ | .brakeStuck, _ | .voteOutlier, _ | .disagree, _ | .partnerAbsent, _ | .overrideMismatch, _ => true
  | .haltTaken, _ | .sensorFailed, _ | .speedLost, _ | .bridgeFault, _ | .inputHeld, _ => false

/-- A QUERY or CLEAR comes from a SERVICE station, and its DEST is a station's address or 15 (R159, R162). -/
def ServiceHead.wf (h : ServiceHead) : Bool := Addr.isStation h.src && h.role == .service && decide (h.dest.toNat ≤ 15)

/-- Well-formed commands. -/
def Instr.wf : Instr → Bool
  | .overrideRequest src role _ _ _ _ => Addr.isStation src && role.commands
  | .releaseRequest src _ role => Addr.isStation src && role.commands
  | .speedStatusChangeLe v _ | .speedStatusChangeBcu v _ | .speedStatusChangeNsc v _ => speedInRange v
  | .nodeStateChangeLe old new | .nodeStateChangeTsu old new | .nodeStateChangeSlu old new
  | .nodeStateChangeBcu old new => stateChangeWf old new
  | .newTargetArrivalTsu r | .newTargetArrivalSlu r => r.wf
  | .sweepNoticeSlu n | .sweepNoticeBcu n | .sweepNoticePvu n | .sweepNoticeNsc n => n.wf
  | .topChangeNoticeBcu top | .topChangeNoticeNsc top => (match top with | some t => t.wf | none => true)
  | .conversionComplete t => decide (-60 ≤ t) && decide (t ≤ 160)
  | .conditionReport c b => reportWf c b
  | .haltHandoff src _ _ role => Addr.isStation src && role != .absent
  | .frameNotice src kind => Addr.isStation src && kind != .report
  | .openMark b => decide (b.toNat < 0xC0)
  | .unnamedMark b => decide (0xD0 ≤ b.toNat) && decide (b.toNat ≤ 0xFE)
  | .queryNodeState _ _ h | .queryPeerRow _ _ h | .queryStack _ _ h | .queryRecords _ _ h | .queryImage _ _ h
  | .queryBrake _ _ h | .queryConsensus _ _ h | .queryUnit _ _ h | .clearLatches h | .clearRestart h => h.wf
  | .queryUnknownItem item _ _ h => h.wf && (decide (item.toNat < 1) || decide (8 < item.toNat))
  | .clearUnknownAction a h => h.wf && a != 1 && a != 2
  | .fullReset _ _ _ _ | .restart | .imageReadComplete _ | .periodExpiry | .autoLockDwellExpiry | .switchChange _ _
  | .tBrakeExpiry | .tPreloadExpiry | .sweepTimerExpiry | .readyEvent _ | .readyTimeout | .wheelEdge | .frameDone
  | .handlebarRampStep | .speedHoldExpiry | .handlebarHoldExpiry | .rowSweepExpiry | .wakeCauseReport | .viewChange _
  | .bfltChange _ | .periodNotice | .rejoinTimerExpiry | .dormantDwellExpiry | .dataCharacter _ | .runMark _ | .shutMark
  | .framingError | .lineBreak | .frameTimeout | .idle | .frameSent | .arbitrationLoss | .readbackMismatch
  | .abortBreakEnd => true

end Sys2Proof
end

