-- ==== Sys2Proof/Certificates/Slice0/Obligations.lean ====
section
/-! DEFINITION. The statements for the provers. Where a statement gives a next state as the old one with some fields changed,
every field not named there is unchanged: that is its frame. -/

open Sys2Proof Sys2Proof.Machine

/-! ## The step -/

/-- A step takes the command at the front of the queue and runs it on the state with the queue's rest; with nothing in the
queue the oldest hand-off is taken; with no hand-off either, one microsecond passes, in which the timestamp counter advances
by 1, the timers run and their expiries go into the queue, a frame in flight moves to its next bit, SBS is read where the
receiver is on (the level driven while a frame is sent, and 0 wherever the own SBD drives 0), the model's own running number
rises, and nothing else changes. The queue, the taking of hand-offs, the tick and the levels of the line are the
model's choices (log entries 1, 2, 3 and 18). Between the steps each output pin shows what its block holds: PWMO and DREN the
drive output in ACTIVE and DEGRADED and low elsewhere (the pins fall with the node state, log entry 20), BKC the coil driver, OFF
in the STEER role (log entry 21), FLT the fault line, ISEL the image read and SSEL0..2 the sweep's channel (log entry 19), and SBD
the level it puts on the line (log entry 18). -/
def Obligations.StepTakesFrontCommand : Prop :=
  (∀ (c : Instr) (rest : List Instr) (s : State), step { s with pending := c :: rest } = exec c { s with pending := rest }) ∧
  (∀ (c : Instr) (l : List Instr) (s : State), s.pending = [] → s.handed = c :: l → step s = exec c s) ∧
  (∀ s : State, s.pending = [] → s.handed = [] → ∃ t, step s = .next t ∧ t.clock = s.clock + 1 ∧
    (∀ n, s.le.periodTimer = some n → n < s.prm.p * 1000 →
      t.le.periodTimer = some (n + 1) ∧ (.periodExpiry ∈ t.pending ↔ n + 1 = s.prm.p * 1000)) ∧
    (∀ (i : Nat) (T : Timer) (limit : Nat) (c : Instr), s.timers[i]? = some (T, limit, c) →
      (c ∈ t.pending ↔ ∃ n, T = some n ∧ n + 1 = limit) ∧
      t.timers[i]? = some (T.map (fun n => if n < limit then n + 1 else n), limit, c)) ∧
    (s.bi.inFlight = none → t.bi.inFlight = none) ∧
    (∀ f, s.bi.inFlight = some f → t.bi.inFlight = some { f with
      begun := if f.begun < 11 * f.chars.length then f.begun + 1 else f.begun }) ∧
    (s.bi.rx = .off → t.bi.sbs = s.bi.sbs) ∧
    (s.bi.rx ≠ .off → s.bi.tx = .sending → t.bi.sbs = t.bi.sbd) ∧
    (s.bi.rx ≠ .off → t.bi.sbd = false → t.bi.sbs = false) ∧
    t = { s with clock := t.clock, le := { s.le with periodTimer := t.le.periodTimer, dwell := t.le.dwell },
                 bcu := { s.bcu with timer := t.bcu.timer },
                 mu := { s.mu with sweepTimer := t.mu.sweepTimer, readyTimer := t.mu.readyTimer },
                 pvu := { s.pvu with processing := t.pvu.processing, speedHold := t.pvu.speedHold,
                                     viewHold := t.pvu.viewHold, rowSweep := t.pvu.rowSweep },
                 nsc := { s.nsc with rejoin := t.nsc.rejoin, dormantDwell := t.nsc.dormantDwell },
                 bi := { s.bi with sbs := t.bi.sbs, inFlight := t.bi.inFlight, abortTime := t.bi.abortTime },
                 pending := t.pending, free := s.free + 1 }) ∧
  (∀ s : State,
    (s.nsc.node = .active ∨ s.nsc.node = .degraded → s.outputs.dren = s.drive.dren ∧ s.outputs.pwmo = s.drive.duty) ∧
    (s.nsc.node ≠ .active → s.nsc.node ≠ .degraded → s.outputs.dren = false ∧ s.outputs.pwmo = none) ∧
    (s.role ≠ .steer → s.outputs.bkc = s.bcu.driver) ∧ (s.role = .steer → s.outputs.bkc = false) ∧
    s.outputs.flt = s.nsc.flt ∧ (s.outputs.isel = true ↔ s.cl.phase = .reading) ∧
    (s.outputs.ssel = none ↔ s.mu.sweep = .idle) ∧ (s.outputs.ssel = some 0 ↔ s.mu.sweep = .running1) ∧
    (s.outputs.ssel = some 1 ↔ s.mu.sweep = .running2) ∧ (s.outputs.ssel = some 2 ↔ s.mu.sweep = .running3) ∧
    (s.outputs.sbdBreak = true ↔ s.bi.tx = .aborting) ∧ s.outputs.sbd = s.bi.sbd)

/-! ## The two resets and the image -/

/-- FULL_RESET sets every block to its reset values, reads the straps, enters START and begins the image read,
whatever went before; the queue stays. That the BCU runs before the role is known, and that the pin levels come with
the command, are the model's readings (log entries 21 and 29); that the hand-offs that wait are abandoned is its choice (log entry
2), and so are those of the reset values that the manual does not give, the copies of the speed, the used flags and SBS among
them (log entry 6). -/
def Obligations.FullResetSetsEveryBlock : Prop :=
  ∀ (ads : Addr) (b1 b2 low : Bool) (s : State), ∃ t, exec (.fullReset ads b1 b2 low) s = .next t ∧
    t.clock = 0 ∧ t.pins = ⟨ads, b1, b2, low⟩ ∧ t.drive = ⟨false, none⟩ ∧ t.cl = ⟨.reading, ads, none⟩ ∧
    t.le = Le.reset ∧ t.tsu = Tsu.reset ∧ t.slu = Slu.reset ∧ t.mu = Mu.reset ∧ t.pvu = Pvu.reset ∧ t.nsc = Nsc.reset ∧
    t.bi = Bi.reset ∧ t.sr.restartPending = false ∧ t.handed = [] ∧ t.pending = s.pending ∧
    t.bcu.switch = switchOf b1 b2 ∧ t.bcu.driver = false ∧ t.bcu.demand = false ∧ t.bcu.invalidRun = 0 ∧
    t.bcu.agreeRun = 0 ∧ t.bcu.topCopy = none ∧
    (switchOf b1 b2 = .engaged → t.bcu.state = .engaged ∧ t.bcu.timer = none) ∧
    (switchOf b1 b2 ≠ .engaged → t.bcu.state = .engaging ∧ t.bcu.timer = some (.brake, 0))

/-- RESTART, once the REPORT that answered it has left its slot, acts as a full reset but for the condition latches
and the last HALT, which the NSC keeps, and the present set, which holds the event conditions whose latches are kept.
The two guards are the model's reading (log entry 14). -/
def Obligations.RestartKeepsLatchesAndLastHalt : Prop :=
  ∀ s : State, s.sr.restartPending = true → s.bi.slots.report = none →
    ∃ t f, exec .restart s = .next t ∧
      exec (.fullReset s.pins.ads s.pins.bks1Closed s.pins.bks2Closed s.pins.bfltLow) s = .next f ∧
      t = { f with nsc := { f.nsc with latches := s.nsc.latches, lastHalt := s.nsc.lastHalt, present := t.nsc.present } } ∧
      ∀ c, t.nsc.present.has c = (isEvent c && s.nsc.latches.has c)

/-- IMAGE_READ_COMPLETE. A good image loads the units and takes the node to LISTEN: the timers start, the receiver is in HUNT and
the transmitter IDLE, the records outside the role are ABSENT, and the present set holds what the sources show, the consensus
speed as it stands among them (log entry 10). One that fails a check reports CONFIG_BAD and takes the node to HALTED with FLT
asserted: no timer starts, and the receiver and the transmitter stay as they were. Then what the sources show of each
condition (R139, R141), OVERRIDE_MISMATCH by the counter at 50, which the model takes for what the LE has reported (log entry 22),
and the checks of R173, the fields read as 10.5 lays them out. The clear run is kept at LISTEN (log entry 36). -/
def Obligations.ImageReadStartsOrHaltsTheNode : Prop :=
  (∀ (im : Image) (s : State), s.nsc.node = .start → s.cl.phase = .reading → imageGood im s.cl.ownAddr = true →
    ∃ t, exec (.imageReadComplete im) s = .next t ∧
      t.nsc.node = .listen ∧ t.nsc.flt = false ∧ t.nsc.joinCount = 0 ∧ t.cl = ⟨.good, s.cl.ownAddr, some im⟩ ∧
      t.prm = paramsOf im ∧ t.pvu = { s.pvu with roster := rosterOf im, rowSweep := some 0 } ∧
      t.le = { s.le with periodTimer := some 0 } ∧ t.bi = { s.bi with rx := .hunt, tx := .idle } ∧
      t.mu = { s.mu with sweepTimer := some 0, records := t.mu.records } ∧
      ((paramsOf im).ownRole = .steer → t.mu.records = { s.mu.records with
        shaft := { s.mu.records.shaft with state := .absent }, rate := { s.mu.records.rate with state := .absent } }) ∧
      ((paramsOf im).ownRole ≠ .steer → t.mu.records = { s.mu.records with
        angle := { s.mu.records.angle with state := .absent }, torque := { s.mu.records.torque with state := .absent } }) ∧
      (∀ c, t.nsc.present.has c = t.sourcePresent c) ∧ t.nsc.speed = ⟨s.pvu.speed, s.pvu.speedStatus⟩ ∧
      (∀ c, t.nsc.latches.has c = (s.nsc.latches.has c || (isLatched c && t.sourcePresent c))) ∧
      t.handed = s.handed ++ t.nodeNotices .start .listen ∧
      t.nsc = { s.nsc with node := .listen, flt := false, joinCount := 0, rejoin := none, dormantDwell := none,
                           speed := t.nsc.speed, present := t.nsc.present, latches := t.nsc.latches } ∧
      t = { s with cl := t.cl, prm := t.prm, le := t.le, mu := t.mu, pvu := t.pvu, nsc := t.nsc, bi := t.bi,
                   handed := t.handed }) ∧
  (∀ (im : Image) (s : State), s.nsc.node = .start → s.cl.phase = .reading → imageGood im s.cl.ownAddr = false →
    s.nsc.present.has .configBad = false →
    ∃ t, exec (.imageReadComplete im) s = .next t ∧ t.nsc.node = .halted ∧ t.nsc.flt = true ∧
      t.nsc.present.has .configBad = true ∧ (∀ c, c ≠ .configBad → t.nsc.present.has c = s.nsc.present.has c) ∧
      t.nsc.latches = s.nsc.latches ∧ t.cl = ⟨.bad, s.cl.ownAddr, some im⟩ ∧
      t.nsc = { s.nsc with node := .halted, flt := true, rejoin := none, dormantDwell := none, present := t.nsc.present } ∧
      t = { s with cl := t.cl, nsc := t.nsc, handed := s.handed ++ s.nodeNotices .start .halted }) ∧
  (∀ s : State,
    (let shows (c : Condition) (cause : Prop) : Prop := s.sourcePresent c = true ↔ cause
     shows .configBad False ∧ shows .overlean (s.role.isTilt = true ∧ s.le.overReported = true) ∧
     shows .haltTaken (s.nsc.latches.has .haltTaken = true) ∧
     shows .sensorFailed (s.channel1.state = .failed ∨ s.channel2.state = .failed) ∧
     shows .speedLost (s.pvu.speedStatus = .lost) ∧ shows .brakeStuck (s.role.isTilt = true ∧ s.bcu.state = .stuck) ∧
     (s.role = .steer → shows .voteOutlier (s.slu.outlier = true)) ∧
     (s.role ≠ .steer → shows .voteOutlier (s.tsu.outlier = true)) ∧
     shows .bridgeFault (s.role.isTilt = true ∧ s.pins.bfltLow = true) ∧
     shows .disagree (s.role.isTilt = true ∧ s.tsu.disagree = true) ∧
     shows .partnerAbsent (s.role.isTilt = true ∧ s.tsu.partnerAbsent = true) ∧
     shows .inputHeld (s.channel1.state = .held ∨ s.channel2.state = .held ∨ s.pvu.speedStatus = .held ∨
       s.pvu.speedStatus = .single ∨ s.pvu.viewStatus = .held ∨ s.pvu.viewStatus = .ramping) ∧
     shows .linkConflict (s.nsc.latches.has .linkConflict = true) ∧
     shows .queueOverrun (s.nsc.latches.has .queueOverrun = true) ∧ shows .overrideMismatch (s.le.mismatch = 50))) ∧
  (∀ (im : Image) (straps : Addr), imageGood im straps = true ↔
    (let p := paramsOf im
     let roster := (List.range 15).map (fun k => imgByte im (3 + k))
     let increases (l : List (Nat × Nat)) (x y : Nat) : Prop :=
       (∀ q ∈ l, q.1 ≤ x ∧ q.2 ≤ y) ∧ l.Pairwise (fun a b => a.1 < b.1)
     let within (n low high : Nat) : Prop := low ≤ n ∧ n ≤ high
     crcBytes 0xFFFF im.toList = 0 ∧ imgByte im 0 = 1 ∧ imgByte im 2 = straps.toNat ∧ straps.toNat ≤ 14 ∧
     within (imgByte im 1) 1 3 ∧ imgByte im (3 + imgByte im 2) = imgByte im 1 ∧
     (∀ n ∈ roster, n ≤ 6) ∧ roster.count 1 = 1 ∧ roster.count 2 ≤ 1 ∧ roster.count 3 = 1 ∧ roster.count 5 ≤ 1 ∧
     (p.p = 1 ∨ p.p = 2 ∨ p.p = 4) ∧
     increases p.curve 450 1000 ∧ p.curve.Pairwise (fun a b => a.2 ≤ b.2) ∧
     increases p.lean 1500 4500 ∧ p.lean.Pairwise (fun a b => a.2 ≤ b.2) ∧ increases p.assist 2500 1023 ∧
     p.vFl < p.vFh ∧ p.vStand < p.vUnlock ∧ p.vUnlock < p.vFree ∧ p.phiMax + 100 ≤ p.phiStop ∧ p.phiStop ≤ 4999 ∧
     p.fresh < p.stale ∧ p.td1 < p.td2 ∧ p.td1 ≤ 150 ∧ p.td2 ≤ 150 ∧
     within p.kd 0 4095 ∧ within p.tauMax 100 30000 ∧ within p.tRated 100 30000 ∧ within p.tauTol 0 30000 ∧
     within p.nX 1 255 ∧ within p.voteTol 0 9000 ∧ within p.nVote 1 255 ∧ within p.kC 0 4095 ∧ within p.nC 1 255 ∧
     within p.tauSMax 100 20000 ∧ within p.deltaSoft 100 500 ∧ within p.phiMax 1000 4500 ∧ within p.sMax 1 200 ∧
     within p.aMax 100 1500 ∧ p.vFl ≤ 2500 ∧ p.vFh ≤ 2500 ∧ p.vStand ≤ 2500 ∧ p.vUnlock ≤ 2500 ∧ p.vFree ≤ 2500 ∧
     p.vCouple ≤ 2500 ∧ within p.tStand 100 10000 ∧ within p.hV 10 2000 ∧ within p.hDelta 10 1000 ∧
     within p.rDelta 1 100 ∧ within p.fresh 1 100 ∧ within p.stale 2 1000 ∧ within p.tJoin 50 5000 ∧
     within p.tDormant 1000 600000 ∧ within p.nHold 1 10 ∧ within p.teeth 1 64 ∧ within p.circ 500 3000 ∧
     within p.wake 0 2000 ∧ within p.tolPark 0 500 ∧ within p.omegaPark 0 3000 ∧
     within p.spdWidth 1 32 ∧ within p.spdShift 0 15 ∧ imgBit im 176 6 = false ∧ imgByte im 182 / 2 % 64 = 0))

/-! ## The lean engine -/

/-- The interpolation primitive on a table of two points or more with x strictly increasing: the first y up to the first x,
the last y from the last x on, and between two points the truncated line through them. -/
def Obligations.InterpolationFollowsTheTable : Prop :=
  ∀ (t : List (Nat × Nat)) (x : Int), 2 ≤ t.length → t.Pairwise (fun p q => p.1 < q.1) →
    (∀ p, t.head? = some p → x ≤ p.1 → interp t x = p.2) ∧ (∀ p, t.getLast? = some p → (p.1 : Int) ≤ x → interp t x = p.2) ∧
    (∀ (i : Nat) (p q : Nat × Nat), t[i]? = some p → t[i + 1]? = some q → (p.1 : Int) ≤ x → x < q.1 →
      interp t x = p.2 + (((q.2 : Int) - p.2) * (x - p.1)).tdiv ((q.1 : Int) - p.1))

/-- S5: the faded lean of the balance lean S4 and the consensus speed, with its mirror image for the other sign of S4, and
the image check that keeps the divisor at least 1. -/
def Obligations.LowSpeedFade : Prop :=
  (∀ s : State, s.prm.vFl < s.prm.vFh →
    (s.pvu.speed ≤ s.prm.vFl → s.s5 = 0) ∧ (s.prm.vFh ≤ s.pvu.speed → s.s5 = s.s4) ∧
    (s.prm.vFl < s.pvu.speed → s.pvu.speed < s.prm.vFh →
      s.s5 = (s.s4 * ((s.pvu.speed : Int) - s.prm.vFl)).tdiv ((s.prm.vFh : Int) - s.prm.vFl))) ∧
  (∀ s t : State, s.prm = t.prm → s.pvu.speed = t.pvu.speed → t.s4 = -s.s4 → t.s5 = -s.s5) ∧
  (∀ (im : Image) (a : Addr), imageGood im a = true →
    (paramsOf im).vFl < (paramsOf im).vFh ∧ (paramsOf im).vFh ≤ 2500)

/-- S6 over a whole stack: the base of the first entry that is not a LIMIT, or the free lean, capped in magnitude by the
smallest LIMIT above it, its sign kept. -/
def Obligations.OverrideResolution : Prop :=
  ∀ (free : Int) (limits rest : List Entry), (∀ e ∈ limits, e.kind = .limit ∧ ∃ a, e.angle = some a ∧ 0 ≤ a) →
    (∀ e, rest.head? = some e → e.kind ≠ .limit) →
    ∃ base, (rest = [] → base = free) ∧
      (∀ e, rest.head? = some e → (e.kind = .upright → base = 0) ∧
        (∀ a, e.kind = .hold ∨ e.kind = .park → e.angle = some a → base = a)) ∧
      (∀ e ∈ limits, ∀ a, e.angle = some a → ((resolveStack free (limits ++ rest)).natAbs : Int) ≤ a) ∧
      ((resolveStack free (limits ++ rest)).natAbs = base.natAbs ∨
        ∃ e ∈ limits, e.angle = some ((resolveStack free (limits ++ rest)).natAbs : Int)) ∧
      (resolveStack free (limits ++ rest)).natAbs ≤ base.natAbs ∧ 0 ≤ resolveStack free (limits ++ rest) * base

/-- PERIOD_EXPIRY from LISTEN to DORMANT: the target and the rate target by the tracking rule or by the slew from the
previous target (reseeded at the first expiry in ACTIVE after LISTEN), within ±φ_max, their publication, the advance of the
stack after S6 has read it, and the hand-offs: the ramp step, a top-change notice exactly when the advance has changed the top's
tag or emptied the stack, the new-target record, the reports of the two checks, and last the period notice, which R142 puts at the
end of the LE's work; that the ramp step stands first is the model's choice (log entry 30). The dwell is
evaluated where the advance changes the stack, for the LE's copy of the speed (log entry 9). Then S1 to S4 themselves, from the
view and the speed to the balance lean, and the measured lean of either role. -/
def Obligations.PeriodExpiryPublishesTheTarget : Prop :=
  (∀ s : State, s.nsc.node.live = true →
    ∃ t prev, exec .periodExpiry s = .next t ∧
      (s.nsc.node = .active ∧ s.le.lastRun = some .listen → prev = s.measuredClamped) ∧
      (¬(s.nsc.node = .active ∧ s.le.lastRun = some .listen) → prev = s.le.prev) ∧
      (s.nsc.node.tracking = true → t.le.phiT = s.measuredClamped) ∧
      (s.nsc.node.tracking = false → t.le.phiT = prev +
        clampMag s.prm.sMax (clampMag s.prm.phiMax (resolveStack s.s5 s.le.stack) - prev)) ∧
      (s.nsc.node.tracking = false → (t.le.phiT - prev).natAbs ≤ s.prm.sMax) ∧
      (prev.natAbs ≤ s.prm.phiMax → t.le.phiT.natAbs ≤ s.prm.phiMax) ∧
      t.le.omegaT = clampMag 30000 (((t.le.phiT - prev) * 1000).tdiv s.prm.p) ∧
      t.le.prev = t.le.phiT ∧ t.le.lastRun = some s.nsc.node ∧ t.le.stack = advanceTop s.le.stack ∧
      t.le.lastRefusal = s.le.lastRefusal ∧ t.le.periodTimer = some 0 ∧
      (∃ reports, t.handed = s.handed ++ [.handlebarRampStep] ++
          (if t.le.stack.head?.map (fun e => e.tag) = s.le.stack.head?.map (fun e => e.tag) then []
           else s.topNotices (t.le.stack.head?.map (fun e => ⟨e.tag, e.kind, e.angle⟩))) ++
          [s.recordNotice (targetRecord t.le.phiT t.le.omegaT t.le.stack t.le.lastRefusal)] ++ reports ++ [.periodNotice] ∧
        ∀ i ∈ reports, ∃ c b, i = .conditionReport c b ∧ (c = .overlean ∨ c = .overrideMismatch)) ∧
      dwellRuns s t ∧ t.le.speed = s.le.speed ∧
      t = { s with le := t.le, handed := t.handed }) ∧
  (∀ s : State,
    s.s1 = max (-450) (min 450 s.pvu.view) ∧ s.s2 = interp s.prm.curve (s.s1.natAbs : Int) ∧
    s.s3 = min (s.prm.aMax : Int) (((s.pvu.speed : Int) * s.pvu.speed * s.s2).tdiv 100000) ∧
    (0 < s.s1 → s.s4 = interp s.prm.lean s.s3) ∧ (s.s1 = 0 → s.s4 = 0) ∧ (s.s1 < 0 → s.s4 = -interp s.prm.lean s.s3)) ∧
  (∀ s : State,
    (let hears (k : Role) (c : Contrib) : Prop := ∃ f, s.contribOf k = some (c, f) ∧ f.heard = true
     (s.role ≠ .steer → s.measured = s.mu.records.shaft.lastGood) ∧
     (s.role = .steer →
       (∀ a b, hears .tiltA a → hears .tiltB b → s.measured = some ((a.phiM.toInt + b.phiM.toInt).fdiv 2)) ∧
       (∀ a, hears .tiltA a → (∀ b, ¬hears .tiltB b) → s.measured = some a.phiM.toInt) ∧
       (∀ b, hears .tiltB b → (∀ a, ¬hears .tiltA a) → s.measured = some b.phiM.toInt) ∧
       ((∀ a, ¬hears .tiltA a) → (∀ b, ¬hears .tiltB b) → s.measured = none)) ∧
     s.measuredClamped = max (-(s.prm.phiMax : Int)) (min (s.prm.phiMax : Int) (s.measured.getD 0))))

/-- The two checks of an expiry. Over-lean, in a tilt role: a GOOD reading not yet counted is counted once, three in a
row beyond φ_stop set the flag and report OVERLEAN, and one within it clears both; a counted, HELD or FAILED one
changes nothing. Mismatch: in ACTIVE and DEGRADED the counter rises to 50 while a running peer whose row is FRESH
shows another depth or top tag, with the report at 50, and is 0 otherwise. No other report is made: none of OVERLEAN while the flag
is set, and none of OVERRIDE_MISMATCH on the way to 50. That the absent report is made at every expiry outside ACTIVE and DEGRADED
is the model's choice (log entry 22). -/
def Obligations.PeriodExpiryRunsItsChecks : Prop :=
  ∀ s : State, s.nsc.node.live = true →
    ∃ t others leans mism, exec .periodExpiry s = .next t ∧
      t.handed = s.handed ++ others ++ leans ++ mism ++ [.periodNotice] ∧ (∀ c b, .conditionReport c b ∉ others) ∧
      (∀ phi, s.role.isTilt = true → s.mu.records.shaft.state = .good → s.mu.records.shaft.lastGood = some phi →
        s.le.countedStamp ≠ some s.mu.records.shaft.stamp →
        t.le.countedStamp = some s.mu.records.shaft.stamp ∧
        (s.prm.phiStop < phi.natAbs → t.le.overCount = min (s.le.overCount + 1) 3 ∧
          t.le.overReported = (s.le.overReported || t.le.overCount == 3) ∧
          leans = if t.le.overCount = 3 ∧ s.le.overReported = false then [.conditionReport .overlean true] else []) ∧
        (phi.natAbs ≤ s.prm.phiStop → t.le.overCount = 0 ∧ t.le.overReported = false ∧
          leans = if s.le.overReported = true then [.conditionReport .overlean false] else [])) ∧
      ((s.role.isTilt = false ∨ s.mu.records.shaft.state ≠ .good ∨ s.mu.records.shaft.lastGood = none ∨
          s.le.countedStamp = some s.mu.records.shaft.stamp) →
        t.le.overCount = s.le.overCount ∧ t.le.overReported = s.le.overReported ∧
          t.le.countedStamp = s.le.countedStamp ∧ leans = []) ∧
      (s.nsc.node.running = true →
        (∃ a ∈ s.peers, ∃ c, s.contribAt a = some (c, .fresh) ∧ c.running = true ∧
          (c.depth.toNat, c.topTag) ≠ (t.le.stack.length, (topTag t.le.stack).getD 0)) →
        t.le.mismatch = min (s.le.mismatch + 1) 50 ∧
          mism = if s.le.mismatch = 49 then [.conditionReport .overrideMismatch true] else []) ∧
      (s.nsc.node.running = true →
        (∀ a ∈ s.peers, ∀ c, s.contribAt a = some (c, .fresh) → c.running = true →
          (c.depth.toNat, c.topTag) = (t.le.stack.length, (topTag t.le.stack).getD 0)) →
        t.le.mismatch = 0 ∧ mism = if s.le.mismatch = 50 then [.conditionReport .overrideMismatch false] else []) ∧
      (s.nsc.node.running = false → t.le.mismatch = 0 ∧ mism = [.conditionReport .overrideMismatch false])

/-! ## The override stack -/

/-- An OVERRIDE that is a push and passes the checks in order: the new entry on the top with the fields of its kind, the last
refusal 0, and a top-change notice; in DORMANT the NSC is told. The speed that admits a PARK is that of the latest
speed-status change the LE has taken, which is how the model settles R38's last row (log entry 9). After any OVERRIDE taken, a
refresh and a refusal among them, the dwell runs as R39 says for the stack as it then stands and that same speed. A top-change
notice goes to the BCU, in a role that has one, and to the NSC, in that order and before the wake cause, which the model fixes (log
entry 30). -/
def Obligations.OverridePushIsMade : Prop :=
  (∀ (s : State) (src : Addr) (role : Role) (tag kind : Byte) (k : OverrideKind) (angle count : Half),
    s.nsc.node.live = true → tag ≠ 0 → tag.toNat < 240 → overrideOfByte kind = some k → (∀ x ∈ s.le.stack, x.tag ≠ tag) →
    (count = 0 → role = .service) → (k = .park → s.le.speed.status.heard = true ∧ s.le.speed.value < s.prm.vStand) →
    s.le.stack.length < 4 →
    ∃ t e, exec (.overrideRequest src role tag kind angle count) s = .next t ∧ t.le.stack = e :: s.le.stack ∧
      e.tag = tag ∧ e.kind = k ∧ e.origin = some src ∧ e.pending = false ∧ (count = 0 → e.count = .forever 0) ∧
      (count ≠ 0 → e.count = .finite count.toNat) ∧
      (k = .hold → e.angle = some (clampMag s.prm.phiMax angle.toInt)) ∧
      (k = .limit → e.angle = some (min (angle.toInt.natAbs : Int) s.prm.phiMax)) ∧
      (k = .park → e.angle = some s.measuredClamped) ∧ (k = .upright → e.angle = none) ∧
      t.handed = s.handed.erase (.overrideRequest src role tag kind angle count) ++
        s.topNotices (some ⟨tag, k, e.angle⟩) ++ (if s.nsc.node = .dormant then [.wakeCauseReport] else []) ∧
      t = { s with le := { s.le with stack := t.le.stack, lastRefusal := .accepted, dwell := t.le.dwell },
                   handed := t.handed }) ∧
  (∀ (s : State) (src : Addr) (role : Role) (tag kind : Byte) (angle count : Half), s.nsc.node.live = true →
    ∃ t, exec (.overrideRequest src role tag kind angle count) s = .next t ∧ dwellRuns s t) ∧
  (∀ (s : State) (top : Option TopView), s.topNotices top =
    if s.role = .steer then [.topChangeNoticeNsc top] else [.topChangeNoticeBcu top, .topChangeNoticeNsc top])

/-- An OVERRIDE whose tag and kind stand on the stack is a refresh, at any speed and on a full stack: the count is replaced
and everything else of the entry stays; the last refusal becomes 0 and the top does not change. A count of 0 that no SERVICE
station sends is refused with COUNT_ZERO, and the entry keeps its count. -/
def Obligations.OverrideRefreshReplacesTheCount : Prop :=
  ∀ (s : State) (src : Addr) (role : Role) (tag kind : Byte) (angle count : Half) (e : Entry),
    s.nsc.node.live = true → tag ≠ 0 → tag.toNat < 240 → s.le.stack.find? (fun x => x.tag == tag) = some e →
    overrideOfByte kind = some e.kind →
    (let i : Instr := .overrideRequest src role tag kind angle count
     let handed := s.handed.erase i ++ (if s.nsc.node = .dormant then [.wakeCauseReport] else [])
     (∀ c : Count, (count = 0 → role = .service) → (count ≠ 0 → c = .finite count.toNat) →
       (count = 0 → (∀ n, e.count = .finite n → c = .forever 0) ∧ (∀ h, e.count = .forever h → c = .forever h)) →
       ∃ t, exec i s = .next t ∧
         t.le.stack = s.le.stack.map (fun x => if x.tag = tag then { x with count := c } else x) ∧ t.handed = handed ∧
         t = { s with le := { s.le with stack := t.le.stack, lastRefusal := .accepted, dwell := t.le.dwell },
                      handed := t.handed }) ∧
     (count = 0 → role ≠ .service →
       exec i s = .next { s with le := { s.le with lastRefusal := .countZero }, handed := handed }))

/-- An OVERRIDE that a check refuses, in the order of the checks: the last refusal takes the reason and nothing else of the
LE changes. The speed that refuses a PARK is that of the latest speed-status change the LE has taken, which is how the
model settles R38's last row (log entry 9). -/
def Obligations.OverrideRefusalsInOrder : Prop :=
  ∀ (s : State) (src : Addr) (role : Role) (tag kind : Byte) (angle count : Half) (r : RefusalReason),
    s.nsc.node.live = true →
    (let reserved := tag = 0 ∨ 240 ≤ tag.toNat ∨ overrideOfByte kind = none
     let other := ∃ e, s.le.stack.find? (fun x => x.tag == tag) = some e ∧ overrideOfByte kind ≠ some e.kind
     let absent := ∀ x ∈ s.le.stack, x.tag ≠ tag
     let zero := count = 0 ∧ role ≠ .service
     let moving := overrideOfByte kind = some .park ∧
       ¬(s.le.speed.status.heard = true ∧ s.le.speed.value < s.prm.vStand)
     ((reserved ∨ other) ∧ r = .tagConflict) ∨ (¬reserved ∧ ¬other ∧ zero ∧ r = .countZero) ∨
       (¬reserved ∧ absent ∧ ¬zero ∧ moving ∧ r = .parkMoving) ∨
       (¬reserved ∧ absent ∧ ¬zero ∧ ¬moving ∧ 4 ≤ s.le.stack.length ∧ r = .stackFull)) →
    ∃ t, exec (.overrideRequest src role tag kind angle count) s = .next t ∧
      t = { s with le := { s.le with lastRefusal := r },
                   handed := s.handed.erase (.overrideRequest src role tag kind angle count) ++
                     (if s.nsc.node = .dormant then [.wakeCauseReport] else []) }

/-- A RELEASE: tag 240 and an absent tag are ignored, the top is popped with every release-pending entry that surfaces, and
an entry below the top is marked. A top-change notice is given exactly when the top's tag differs afterwards or the stack has
become empty, with what then stands at the top; in DORMANT the NSC is told. That the notice stands before the wake cause is the
model's choice (log entry 30). The dwell then runs as R39 says, for the LE's copy of the speed (log entry 9). -/
def Obligations.ReleaseRequestPopsOrMarks : Prop :=
  ∀ (s : State) (src : Addr) (tag : Byte) (role : Role), s.nsc.node.live = true →
    ∃ t, exec (.releaseRequest src tag role) s = .next t ∧
      (tag = 240 ∨ (∀ e ∈ s.le.stack, e.tag ≠ tag) → t.le.stack = s.le.stack) ∧
      (∀ e rest, tag ≠ 240 → s.le.stack = e :: rest → e.tag = tag → t.le.stack = rest.dropWhile (fun x => x.pending)) ∧
      (∀ e rest, tag ≠ 240 → s.le.stack = e :: rest → e.tag ≠ tag →
        t.le.stack = e :: rest.map (fun x => if x.tag = tag then { x with pending := true } else x)) ∧
      t.handed = s.handed.erase (.releaseRequest src tag role) ++
        (if t.le.stack.head?.map (fun e => e.tag) = s.le.stack.head?.map (fun e => e.tag) then []
         else s.topNotices (t.le.stack.head?.map (fun e => ⟨e.tag, e.kind, e.angle⟩))) ++
        (if s.nsc.node = .dormant then [.wakeCauseReport] else []) ∧
      dwellRuns s t ∧
      t = { s with le := { s.le with stack := t.le.stack, dwell := t.le.dwell }, handed := t.handed }

/-- The top entry advances at each period expiry at which the LE runs, after the resolution has read the stack and before the
summary is taken. A finite entry leaves at the expiry that its count names, with the entries that surface marked; before
that it stands with what is left of its count and the entries below it untouched. A FOREVER entry stays and its held count
rises to 65535 and no further. An empty stack is not advanced. -/
def Obligations.TopEntryAdvancesAtAnExpiry : Prop :=
  (∀ s : State, s.nsc.node.live = true → ∃ t, exec .periodExpiry s = .next t ∧ t.le.stack = advanceTop s.le.stack ∧
    s.recordNotice (targetRecord t.le.phiT t.le.omegaT t.le.stack t.le.lastRefusal) ∈ t.handed ∧
    (let prev := if s.nsc.node = .active ∧ s.le.lastRun = some .listen then s.measuredClamped else s.le.prev
     s.nsc.node.tracking = false → t.le.phiT = prev +
       clampMag s.prm.sMax (clampMag s.prm.phiMax (resolveStack s.s5 s.le.stack) - prev))) ∧
  (∀ (n : Nat) (e : Entry) (rest : List Entry), e.count = .finite n → 1 ≤ n →
    (∀ k, k < n → advanceTop^[k] (e :: rest) = { e with count := .finite (n - k) } :: rest) ∧
    advanceTop^[n] (e :: rest) = rest.dropWhile (fun x => x.pending)) ∧
  (∀ (h k : Nat) (e : Entry) (rest : List Entry), e.count = .forever h → h ≤ 65535 →
    advanceTop^[k] (e :: rest) = { e with count := .forever (min (h + k) 65535) } :: rest) ∧
  advanceTop [] = []

/-- AUTO_LOCK_DWELL_EXPIRY while the dwell runs and has reached T_stand: with room the auto-HOLD of tag 240 is pushed at φ_m
clamped and the timer stops; with four entries the timer starts again from 0. A timer that has not reached T_stand has no
expiry, which is the model's choice (log entry 7). That an entry of tag 240 already there is not pushed again is the model's
guard (log entry 28). -/
def Obligations.AutoLockPushesHold : Prop :=
  ∀ (s : State) (n : Nat), s.le.dwell = some n →
    (n < s.prm.tStand * 1000 → exec .autoLockDwellExpiry s = .next s) ∧
    (s.prm.tStand * 1000 ≤ n → s.le.stack.length < 4 → (∀ e ∈ s.le.stack, e.tag ≠ 240) →
      ∃ t, exec .autoLockDwellExpiry s = .next t ∧
        t = { s with
          le := { s.le with
            stack := ⟨240, .hold, some s.measuredClamped, .forever 0, none, false⟩ :: s.le.stack, dwell := none }
          handed := s.handed ++ s.topNotices (some ⟨240, .hold, some s.measuredClamped⟩) }) ∧
    (s.prm.tStand * 1000 ≤ n → 4 ≤ s.le.stack.length →
      exec .autoLockDwellExpiry s = .next { s with le := { s.le with dwell := some 0 } })

/-- SPEED_STATUS_CHANGE_LE: the LE takes the value and status handed over (log entry 9). On motion every entry of tag 240 or
241 and every PARK that surfaces at the top is popped, with the cascade of marked entries, and those below stay, marked, until
they surface; an entry of another kind stays as it was. Without motion the stack stays. A top-change notice is given exactly
when the top's tag differs afterwards or the stack has become empty. Then the dwell runs exactly under its three conditions
for the speed handed over. -/
def Obligations.MotionReleasesParkedEntries : Prop :=
  ∀ (s : State) (v : Nat) (st : SpeedStatus), s.nsc.node.live = true →
    ∃ t, exec (.speedStatusChangeLe v st) s = .next t ∧ t.le.speed = ⟨v, st⟩ ∧
      (let moving := st.heard = true ∧ s.prm.vUnlock < v
       let goes (e : Entry) : Bool := e.tag == 240 || e.tag == 241 || e.kind == .park
       let mark (l : List Entry) : List Entry := l.map (fun e => if goes e then { e with pending := true } else e)
       (∀ e, moving → s.le.stack.head? = some e → goes e = true →
         t.le.stack = mark (s.le.stack.dropWhile (fun x => goes x || x.pending))) ∧
       (moving → (∀ e, s.le.stack.head? = some e → goes e = false) → t.le.stack = mark s.le.stack) ∧
       (¬moving → t.le.stack = s.le.stack)) ∧
      t.handed = s.handed.erase (.speedStatusChangeLe v st) ++
        (if t.le.stack.head?.map (fun e => e.tag) = s.le.stack.head?.map (fun e => e.tag) then []
         else s.topNotices (t.le.stack.head?.map (fun e => ⟨e.tag, e.kind, e.angle⟩))) ∧
      (t.le.dwell.isSome = true ↔ (st.heard = true ∧ v < s.prm.vStand) ∧
        (s.nsc.node = .active ∨ s.nsc.node = .degraded ∨ s.nsc.node = .dormant) ∧
        ∀ e ∈ t.le.stack, e.kind ≠ .park ∧ e.tag ≠ 240) ∧
      (∀ n, t.le.dwell = some n → n = s.le.dwell.getD 0) ∧
      t = { s with le := { s.le with stack := t.le.stack, dwell := t.le.dwell, speed := ⟨v, st⟩ }, handed := t.handed }

/-- NODE_STATE_CHANGE_LE: LISTEN to ACTIVE on a brake seen ENGAGED, by the node's own switch in a tilt role and by a FRESH tilt
row in the STEER role, pushes the start-PARK of tag 241 with a top-change notice where there is room and no such entry; any
other change leaves the stack. Then the dwell runs exactly under its three conditions, for the speed of the latest
speed-status change taken (log entry 9). The two skips are R41's (log entry 28). -/
def Obligations.JoinPushesStartPark : Prop :=
  ∀ (s : State) (old new : NodeState),
    ∃ t, exec (.nodeStateChangeLe old new) s = .next t ∧
      (let seen := (s.role ≠ .steer ∧ s.bcu.switch = .engaged) ∨
         (s.role = .steer ∧ ∃ k c, (k = .tiltA ∨ k = .tiltB) ∧ s.contribOf k = some (c, .fresh) ∧ c.switch = 0)
       let pushed := old = .listen ∧ new = .active ∧ seen ∧ s.le.stack.length < 4 ∧ ∀ e ∈ s.le.stack, e.tag ≠ 241
       (s.brakeSeenEngaged = true ↔ seen) ∧
       (pushed → t.le.stack = ⟨241, .park, some s.measuredClamped, .forever 0, none, false⟩ :: s.le.stack ∧
         t.handed = s.handed.erase (.nodeStateChangeLe old new) ++
           s.topNotices (some ⟨241, .park, some s.measuredClamped⟩)) ∧
       (¬pushed → t.le.stack = s.le.stack ∧ t.handed = s.handed.erase (.nodeStateChangeLe old new))) ∧
      (t.le.dwell.isSome = true ↔ (s.le.speed.status.heard = true ∧ s.le.speed.value < s.prm.vStand) ∧
        (s.nsc.node = .active ∨ s.nsc.node = .degraded ∨ s.nsc.node = .dormant) ∧
        ∀ e ∈ t.le.stack, e.kind ≠ .park ∧ e.tag ≠ 240) ∧
      (∀ n, t.le.dwell = some n → n = s.le.dwell.getD 0) ∧
      t = { s with le := { s.le with stack := t.le.stack, dwell := t.le.dwell }, handed := t.handed }

/-! ## The torque share unit -/

/-- The share before its clamp: 0 when w + w_p is 0, else τ_d·w/(w + w_p) to the nearest integer, a tie away from zero; with
w_p = 0 and w above 0 it is τ_d. -/
def Obligations.ShareIsNearestQuotient : Prop :=
  ∀ (tau : Int) (w wP : Nat),
    (w + wP = 0 → shareRaw tau w wP = 0) ∧
    (0 < w + wP → 2 * (tau * w - shareRaw tau w wP * ((w + wP : Nat) : Int)).natAbs ≤ w + wP ∧
      (2 * (tau * w - shareRaw tau w wP * ((w + wP : Nat) : Int)).natAbs = w + wP →
        (tau * w).natAbs < (shareRaw tau w wP).natAbs * (w + wP))) ∧
    (wP = 0 → 0 < w → shareRaw tau w wP = tau)

/-- NEW_TARGET_ARRIVAL_TSU: the demand, the capability, the partner weight, the limit, the share (never beyond its limit,
which DISAGREE halves, and zero while w is zero), the release factor, the output torque and the drive output of one arrival,
and the blocks it leaves as they were. The join ramp it reads is the one that the node-state changes waiting for the TSU leave,
which it takes first, so that ramp and node state agree as R64 has them (log entry 24). -/
def Obligations.TsuArrivalFormsShareAndOutput : Prop :=
  ∀ (s : State) (r : TargetRecord), s.role.isTilt = true → s.nsc.node.live = true →
    ∃ t raw, exec (.newTargetArrivalTsu r) s = .next t ∧
      (∀ phi om, s.mu.records.shaft.lastGood = some phi → s.mu.records.rate.lastGood = some om →
        raw = ((s.prm.kp : Int) * (r.phiT - phi) + s.prm.kd * (r.omegaT - om)).fdiv 256) ∧
      (s.mu.records.shaft.lastGood = none ∨ s.mu.records.rate.lastGood = none → raw = 0) ∧
      t.tsu.tauD = clampMag s.prm.tauMax raw ∧
      (s.mu.records.temp.state = .failed ∨ s.mu.records.temp.lastGood = none → t.tsu.wTh = 50) ∧
      (∀ T, s.mu.records.temp.state ≠ .failed → s.mu.records.temp.lastGood = some T →
        (T ≤ s.prm.td1 → t.tsu.wTh = 100) ∧ (s.prm.td1 < T → s.prm.td2 ≤ T → t.tsu.wTh = 0) ∧
        (s.prm.td1 < T → T < s.prm.td2 → (t.tsu.wTh : Int) = (100 * (s.prm.td2 - T)).tdiv (s.prm.td2 - s.prm.td1))) ∧
      (let ramp := (s.handed.filterMap tsuChange).foldl (fun x q => rampChange q.1 q.2 s.clock x) s.tsu.ramp
       (ramp = .idle → t.tsu.wJoin = 0 ∧ t.tsu.ramp = .idle) ∧
       (ramp = .complete → t.tsu.wJoin = 100 ∧ t.tsu.ramp = .complete) ∧
       (∀ st, ramp = .running st → t.tsu.wJoin = min 100 (100 * age s.clock st / (s.prm.tJoin * 1000)) ∧
         t.tsu.ramp = if t.tsu.wJoin = 100 then .complete else .running st)) ∧
      (s.nsc.node.running = true → t.tsu.w = min t.tsu.wTh t.tsu.wJoin) ∧ (s.nsc.node.running = false → t.tsu.w = 0) ∧
      (∀ c f, s.partnerContrib = some (c, f) → f.heard = true → c.running = true → t.tsu.wP = c.w.toNat) ∧
      ((∀ c f, s.partnerContrib = some (c, f) → f.heard = true → c.running = false) → t.tsu.wP = 0) ∧
      t.tsu.limit = ((if t.tsu.disagree then t.tsu.w * s.prm.tRated / 100 / 2 else t.tsu.w * s.prm.tRated / 100 : Nat) : Int) ∧
      t.tsu.share = clampMag t.tsu.limit (shareRaw t.tsu.tauD t.tsu.w t.tsu.wP) ∧
      t.tsu.share.natAbs ≤ t.tsu.w * s.prm.tRated / 100 ∧
      (t.tsu.disagree = true → t.tsu.share.natAbs ≤ t.tsu.w * s.prm.tRated / 200) ∧ (t.tsu.w = 0 → t.tsu.share = 0) ∧
      (t.tsu.saturated = true ↔ t.tsu.tauD ≠ raw ∨ t.tsu.share ≠ shareRaw t.tsu.tauD t.tsu.w t.tsu.wP) ∧
      (s.bcu.state = .engaging ∨ s.bcu.state = .engaged → t.tsu.factor = s.tsu.factor - 10 * s.prm.p) ∧
      (s.bcu.state ≠ .engaging → s.bcu.state ≠ .engaged → t.tsu.factor = min 1000 (s.tsu.factor + 20 * s.prm.p)) ∧
      t.tsu.tauO = (t.tsu.share * t.tsu.factor).tdiv 1000 ∧
      (s.nsc.node.running = true → t.drive = ⟨true, some (500 + (400 * t.tsu.tauO).tdiv s.prm.tRated)⟩) ∧
      (s.nsc.node.running = false → t.drive = ⟨false, none⟩) ∧ (∀ i ∈ t.handed, tsuChange i = none) ∧
      t = { s with tsu := t.tsu, drive := t.drive, pvu := { s.pvu with table := t.pvu.table },
                   nsc := { s.nsc with sendCount := t.nsc.sendCount }, bi := t.bi, handed := t.handed, free := t.free }

/-- The counts of an arrival at the TSU. DISAGREE: while the comparison is made it comes at N_x disagreeing comparisons in a
row and goes at N_x agreeing ones, and without a comparison it is absent with both runs 0. The vote: the run counts to N_vote
while the outlier test holds, the flag being set there, and otherwise the run is 0 and the flag clear; the test is that of R62, of
exactly two other TS44 stations, both FRESH and running. Each of the three, PARTNER_ABSENT among them, is reported exactly when it
changes, in the order of the steps of R45; the node-state changes that waited for the TSU are taken first (log entry 24). -/
def Obligations.TsuArrivalCountsDisagreeAndVote : Prop :=
  (∀ (s : State) (r : TargetRecord), s.role.isTilt = true → s.nsc.node.live = true →
    ∃ t, exec (.newTargetArrivalTsu r) s = .next t ∧
      (∀ c, s.nsc.node.running = true → s.partnerContrib = some (c, .fresh) → c.running = true →
        (s.prm.tauTol < (t.tsu.tauD - c.tauD.toInt).natAbs → s.tsu.disagree = false →
          (s.prm.nX ≤ s.tsu.disagreeRun + 1 → t.tsu.disagree = true ∧ t.tsu.disagreeRun = s.prm.nX ∧ t.tsu.agreeRun = 0) ∧
          (s.tsu.disagreeRun + 1 < s.prm.nX → t.tsu.disagree = false ∧ t.tsu.disagreeRun = s.tsu.disagreeRun + 1)) ∧
        ((t.tsu.tauD - c.tauD.toInt).natAbs ≤ s.prm.tauTol → s.tsu.disagree = false →
          t.tsu.disagree = false ∧ t.tsu.disagreeRun = 0) ∧
        ((t.tsu.tauD - c.tauD.toInt).natAbs ≤ s.prm.tauTol → s.tsu.disagree = true →
          (s.prm.nX ≤ s.tsu.agreeRun + 1 → t.tsu.disagree = false ∧ t.tsu.disagreeRun = 0 ∧ t.tsu.agreeRun = 0) ∧
          (s.tsu.agreeRun + 1 < s.prm.nX → t.tsu.disagree = true ∧ t.tsu.agreeRun = s.tsu.agreeRun + 1)) ∧
        (s.prm.tauTol < (t.tsu.tauD - c.tauD.toInt).natAbs → s.tsu.disagree = true →
          t.tsu.disagree = true ∧ t.tsu.agreeRun = 0)) ∧
      ((s.nsc.node.running = false ∨ ∀ c, s.partnerContrib = some (c, .fresh) → c.running = false) →
        t.tsu.disagree = false ∧ t.tsu.disagreeRun = 0 ∧ t.tsu.agreeRun = 0) ∧
      (s.outlierTest r.phiT = true → t.tsu.voteRun = min (s.tsu.voteRun + 1) s.prm.nVote ∧
        (t.tsu.voteRun ≠ s.prm.nVote → t.tsu.outlier = s.tsu.outlier) ∧
        (t.tsu.voteRun = s.prm.nVote → t.tsu.outlier = true)) ∧
      (s.outlierTest r.phiT = false → t.tsu.voteRun = 0 ∧ t.tsu.outlier = false) ∧
      (let reported (c : Condition) (before after : Bool) : List Instr :=
         if after = before then [] else [.conditionReport c after]
       t.handed = (s.handed.erase (.newTargetArrivalTsu r)).filter (fun i => (tsuChange i).isNone) ++
         (reported .partnerAbsent s.tsu.partnerAbsent t.tsu.partnerAbsent ++
          reported .disagree s.tsu.disagree t.tsu.disagree ++ reported .voteOutlier s.tsu.outlier t.tsu.outlier)) ∧
      (t.tsu.partnerAbsent = true ↔ ∃ a, s.partner = some a ∧ ∀ c f, s.contribAt a = some (c, f) → f.heard = true →
        c.running = false ∧ c.nodeState ≠ 6)) ∧
  (∀ (s : State) (x : Int), s.outlierTest x = true ↔ s.nsc.node.running = true ∧ ∃ p q a b, s.peers = [p, q] ∧
    s.contribAt p = some (a, .fresh) ∧ a.running = true ∧ s.contribAt q = some (b, .fresh) ∧ b.running = true ∧
    s.prm.voteTol < (x - a.phiT.toInt).natAbs ∧ s.prm.voteTol < (x - b.phiT.toInt).natAbs ∧
    (a.phiT.toInt - b.phiT.toInt).natAbs ≤ s.prm.voteTol)

/-- The CONTRIB fill of an arrival: outside DORMANT at every one, in DORMANT at the one that brings the send count to 50. The
new frame replaces whatever the slot held, with abort count 0, an IDLE transmitter goes to WAIT_GAP, and the own row takes
the same frame, stamped with the counter; a refused fill leaves the slot and the row. The frame holds the fields of R59, in
the STEER role those of R95: its present set is the NSC's with the reports that this arrival makes (log entry 11), and a
signed quantity that does not fit in 16 bits leaves its field free (log entry 5). -/
def Obligations.ArrivalFillsContribWhenAdmitted : Prop :=
  ∀ (s : State) (r : TargetRecord) (cmd : Instr), s.nsc.node.live = true → s.bi.tx ≠ .off → s.cl.ownAddr ≠ 15 →
    (s.role = .steer ∧ cmd = .newTargetArrivalSlu r ∨ s.role.isTilt = true ∧ cmd = .newTargetArrivalTsu r) →
    ∃ t, exec cmd s = .next t ∧
      (s.nsc.node ≠ .dormant ∨ 49 ≤ s.nsc.sendCount →
        ∃ c, t.bi = { s.bi with slots := { s.bi.slots with contrib := some ⟨c.toBytes, 0⟩ },
                                tx := if s.bi.tx = .idle then .waitGap else s.bi.tx } ∧
          (t.row s.cl.ownAddr.toNat).contrib = some (c, s.clock) ∧
          (∀ a, a ≠ s.cl.ownAddr.toNat → t.row a = s.row a) ∧ c.topTag = r.topTag ∧
          c.nodeState.toNat = nodeCode s.nsc.node ∧ c.role.toNat = roleCode s.role ∧
          (let carries (h : Half) (x : Int) : Prop := -32768 ≤ x → x ≤ 32767 → h.toInt = x
           carries c.phiT r.phiT ∧
           (s.role = .steer → carries c.phiM (s.measured.getD 0) ∧ carries c.tauD t.slu.tauS ∧
             carries c.share t.slu.tauC) ∧
           (s.role.isTilt = true → carries c.phiM (s.mu.records.shaft.lastGood.getD 0) ∧ carries c.tauD t.tsu.tauD ∧
             carries c.share t.tsu.share)) ∧
          (∀ d, CondSet.has c.present d =
            if s.role.isTilt = true ∧ d = .partnerAbsent ∧ t.tsu.partnerAbsent ≠ s.tsu.partnerAbsent then t.tsu.partnerAbsent
            else if s.role.isTilt = true ∧ d = .disagree ∧ t.tsu.disagree ≠ s.tsu.disagree then t.tsu.disagree
            else if s.role.isTilt = true ∧ d = .voteOutlier ∧ t.tsu.outlier ≠ s.tsu.outlier then t.tsu.outlier
            else if s.role = .steer ∧ d = .voteOutlier ∧ t.slu.outlier ≠ s.slu.outlier then t.slu.outlier
            else s.nsc.present.has d) ∧
          (∀ d, CondSet.has c.present d = true → c.primary.toNat ≤ condCode d) ∧
          ((∀ d, CondSet.has c.present d = false) → c.primary = 0) ∧
          ((∃ d, CondSet.has c.present d = true) →
            ∃ d, CondSet.has c.present d = true ∧ c.primary.toNat = condCode d) ∧
          (r.depth ≤ 4 → c.depth.toNat = r.depth) ∧
          c.refusal.toNat = refusalCode r.refusal ∧ c.speedStatus.toNat = speedCode s.pvu.speedStatus ∧
          (∀ v, s.mu.wheelSpeed = some v → v ≤ 2500 → c.pulse.toNat = v) ∧ (s.mu.wheelSpeed = none → c.pulse = 0xFFFF) ∧
          (c.dormantReady = true ↔ s.nsc.dormantDwell.isSome = true ∨ s.nsc.node = .dormant) ∧
          (s.role = .steer → c.driver = false ∧ c.switch = 0 ∧ c.ramping = false ∧ c.saturated = t.slu.saturated ∧
            c.w.toNat = if s.nsc.node.running then 100 else 0) ∧
          (s.role.isTilt = true → c.driver = s.bcu.driver ∧ c.switch.toNat = switchCode s.bcu.switch ∧
            c.saturated = t.tsu.saturated ∧ (t.tsu.w ≤ 100 → c.w.toNat = t.tsu.w) ∧
            (c.ramping = true ↔ ∃ st, t.tsu.ramp = .running st)) ∧
          (s.nsc.node = .dormant → t.nsc.sendCount = 0)) ∧
      (s.nsc.node = .dormant → s.nsc.sendCount < 49 →
        t.bi = s.bi ∧ t.pvu = s.pvu ∧ t.nsc.sendCount = s.nsc.sendCount + 1)

/-- NODE_STATE_CHANGE_TSU: the join ramp of each passage, and the drive output taken low when running is left. Where an
arrival comes while such a change waits, the arrival finds the ramp that the change gives (R64): IDLE with w = 0 and the output
low after ACTIVE to FREE, RUNNING with the output enabled after LISTEN to ACTIVE. That the ramp's stamp is the counter when
the TSU takes the event, and that an arrival takes the waiting changes first, are the model's readings (log entry 24). -/
def Obligations.TsuFollowsTheNodeState : Prop :=
  (∀ (s : State) (old new : NodeState), s.role.isTilt = true →
    ∃ t, exec (.nodeStateChangeTsu old new) s = .next t ∧
      (old = .listen → new = .active → t.tsu.ramp = .running s.clock) ∧
      (old = .active → new = .degraded → t.tsu.ramp = s.tsu.ramp) ∧
      (old = .degraded → new = .active → t.tsu.ramp = s.tsu.ramp) ∧
      (old = .active → new = .dormant → t.tsu.ramp = .complete) ∧
      (old = .dormant → new = .active → t.tsu.ramp = .complete) ∧
      (old = .active ∨ old = .degraded ∨ old = .dormant → new = .free ∨ new = .clamped → t.tsu.ramp = .idle) ∧
      (old.running = true → new.running = false → t.drive = ⟨false, none⟩) ∧
      (old.running = false ∨ new.running = true → t.drive = s.drive) ∧
      t = { s with tsu := { s.tsu with ramp := t.tsu.ramp }, drive := t.drive,
                   handed := s.handed.erase (.nodeStateChangeTsu old new) }) ∧
  (∀ (s : State) (r : TargetRecord) (l : List Instr) (old : NodeState), s.role.isTilt = true →
    s.handed = .nodeStateChangeTsu old s.nsc.node :: l → (∀ i ∈ l, tsuChange i = none) →
    (old = .active → s.nsc.node = .free → ∃ t, exec (.newTargetArrivalTsu r) s = .next t ∧ t.tsu.ramp = .idle ∧
      t.tsu.wJoin = 0 ∧ t.tsu.w = 0 ∧ t.drive = ⟨false, none⟩) ∧
    (old = .listen → s.nsc.node = .active → ∃ t, exec (.newTargetArrivalTsu r) s = .next t ∧
      t.tsu.ramp = .running s.clock ∧ t.tsu.wJoin = 0 ∧ t.drive.dren = true))

/-! ## The steer law unit -/

/-- NEW_TARGET_ARRIVAL_SLU: the assist, the saturation runs, φ_m,tilt, the coupling (active exactly where the four conditions of
R89 hold), the clamp, the soft stop, the drive output and the vote of one arrival, and the blocks it leaves as they were. A row
is usable when it is FRESH and reports ACTIVE or DEGRADED. VOTE_OUTLIER is reported exactly when its flag changes, and the node-state
changes that waited for the SLU are taken first (log entry 24). -/
def Obligations.SluArrivalFormsSteerTorque : Prop :=
  ∀ (s : State) (r : TargetRecord), s.role = .steer → s.nsc.node.live = true →
    ∃ t, exec (.newTargetArrivalSlu r) s = .next t ∧
      t.slu.gain = interp s.prm.assist s.pvu.speed ∧
      (∀ tau, s.mu.records.torque.lastGood = some tau → t.slu.tauA = (t.slu.gain * tau).fdiv 256) ∧
      (s.mu.records.torque.lastGood = none → t.slu.tauA = 0) ∧
      (let usable (k : Role) (c : Contrib) : Prop := s.contribOf k = some (c, .fresh) ∧ c.running = true
       let counted (k : Role) (before after : Nat) : Prop :=
         (∀ c, usable k c → c.saturated = true → after = min (before + 1) s.prm.nC) ∧
         ((∀ c, usable k c → c.saturated = false) → after = 0)
       counted .tiltA s.slu.runA t.slu.runA ∧ counted .tiltB s.slu.runB t.slu.runB ∧
       (∀ a b, usable .tiltA a → usable .tiltB b → t.slu.phiTilt = some ((a.phiM.toInt + b.phiM.toInt).fdiv 2)) ∧
       (∀ a, usable .tiltA a → (∀ b, ¬usable .tiltB b) → t.slu.phiTilt = some a.phiM.toInt) ∧
       (∀ b, usable .tiltB b → (∀ a, ¬usable .tiltA a) → t.slu.phiTilt = some b.phiM.toInt) ∧
       ((∀ a, ¬usable .tiltA a) → (∀ b, ¬usable .tiltB b) → t.slu.phiTilt = none) ∧
       (t.slu.coupling = true ↔ s.nsc.node.running = true ∧ s.prm.vCouple ≤ s.pvu.speed ∧
         ((∃ a, usable .tiltA a) ∨ ∃ b, usable .tiltB b) ∧
         ((∃ a, usable .tiltA a) → t.slu.runA = s.prm.nC) ∧ ((∃ b, usable .tiltB b) → t.slu.runB = s.prm.nC))) ∧
      (t.slu.coupling = true →
        ∃ phi, t.slu.phiTilt = some phi ∧ t.slu.tauC = -(((s.prm.kC : Int) * (r.phiT - phi)).fdiv 256)) ∧
      (t.slu.coupling = false → t.slu.tauC = 0) ∧
      (t.slu.saturated = true ↔ clampMag s.prm.tauSMax (t.slu.tauA + t.slu.tauC) ≠ t.slu.tauA + t.slu.tauC) ∧
      (t.slu.softStop = true → t.slu.tauS = 0) ∧
      (t.slu.softStop = false → t.slu.tauS = clampMag s.prm.tauSMax (t.slu.tauA + t.slu.tauC)) ∧
      (t.slu.softStop = true ↔ ∃ d, s.mu.records.angle.lastGood = some d ∧
        (((s.prm.deltaSoft : Int) ≤ d ∧ 0 < clampMag s.prm.tauSMax (t.slu.tauA + t.slu.tauC)) ∨
          (d ≤ -(s.prm.deltaSoft : Int) ∧ clampMag s.prm.tauSMax (t.slu.tauA + t.slu.tauC) < 0))) ∧
      (s.outlierTest r.phiT = true → t.slu.voteRun = min (s.slu.voteRun + 1) s.prm.nVote ∧
        (t.slu.voteRun ≠ s.prm.nVote → t.slu.outlier = s.slu.outlier) ∧
        (t.slu.voteRun = s.prm.nVote → t.slu.outlier = true)) ∧
      (s.outlierTest r.phiT = false → t.slu.voteRun = 0 ∧ t.slu.outlier = false) ∧
      t.handed = (s.handed.erase (.newTargetArrivalSlu r)).filter (fun i => (sluChange i).isNone) ++
        (if t.slu.outlier = s.slu.outlier then [] else [.conditionReport .voteOutlier t.slu.outlier]) ∧
      (s.nsc.node.running = true → t.drive = ⟨true, some (500 + (400 * t.slu.tauS).tdiv s.prm.tauSMax)⟩) ∧
      (s.nsc.node.running = false → t.drive = ⟨false, none⟩) ∧
      t = { s with slu := t.slu, drive := t.drive, pvu := { s.pvu with table := t.pvu.table },
                   nsc := { s.nsc with sendCount := t.nsc.sendCount }, bi := t.bi, handed := t.handed, free := t.free }

/-- NODE_STATE_CHANGE_SLU and SWEEP_NOTICE_SLU in the STEER role: the output taken low when running is left; the RIDER slot
filled and mirrored in the own row unless the angle record is FAILED or has had no good read. The frame's torque is the record's
last good value, and 0 where the record is FAILED or has none; the other rows, and the own row's other records, stay. A value
that does not fit in 16 bits leaves its field free (log entry 5). -/
def Obligations.SluFollowsStateAndSweep : Prop :=
  (∀ (s : State) (old new : NodeState), s.role = .steer →
    exec (.nodeStateChangeSlu old new) s = .next { s with
      drive := if old.running = true ∧ new.running = false then ⟨false, none⟩ else s.drive
      handed := s.handed.erase (.nodeStateChangeSlu old new) }) ∧
  (∀ (s : State) (n : SweepNotice) (d : Int), s.role = .steer → s.nsc.node.live = true → s.bi.tx ≠ .off →
    s.cl.ownAddr ≠ 15 → s.mu.records.angle.lastGood = some d → s.mu.records.angle.state ≠ .failed →
    ∃ t c, exec (.sweepNoticeSlu n) s = .next t ∧ (-32768 ≤ d → d ≤ 32767 → c.delta.toInt = d) ∧
      (s.mu.records.torque.state = .failed ∨ s.mu.records.torque.lastGood = none → c.tauH = 0) ∧
      (∀ tau, s.mu.records.torque.state ≠ .failed → s.mu.records.torque.lastGood = some tau →
        -32768 ≤ tau → tau ≤ 32767 → c.tauH.toInt = tau) ∧
      c.angleState.toNat = recordCode s.mu.records.angle.state ∧ c.torqueState.toNat = recordCode s.mu.records.torque.state ∧
      c.nodeState.toNat = nodeCode s.nsc.node ∧ t.bi.slots = { s.bi.slots with rider := some ⟨c.toBytes, 0⟩ } ∧
      t.row s.cl.ownAddr.toNat = { s.row s.cl.ownAddr.toNat with rider := some (c, s.clock) } ∧
      (∀ a, a ≠ s.cl.ownAddr.toNat → t.row a = s.row a) ∧
      t = { s with bi := { s.bi with slots := t.bi.slots, tx := if s.bi.tx = .idle then .waitGap else s.bi.tx },
                   pvu := { s.pvu with table := t.pvu.table }, handed := s.handed.erase (.sweepNoticeSlu n),
                   free := t.free }) ∧
  (∀ (s : State) (n : SweepNotice), s.role = .steer → s.nsc.node.live = true →
    (s.mu.records.angle.lastGood = none ∨ s.mu.records.angle.state = .failed) →
    exec (.sweepNoticeSlu n) s = .next { s with handed := s.handed.erase (.sweepNoticeSlu n) })

/-! ## The tilt brake -/

/-- SWITCH_CHANGE in the roles with a brake: the new switch is stored and the brake state moves by the table of R73; a change
of the contacts that leaves the decoded switch changes the pins only. -/
def Obligations.SwitchChangeMovesTheBrake : Prop :=
  ∀ (s : State) (b1 b2 : Bool), s.hasBcu = true →
    ∃ t, exec (.switchChange b1 b2) s = .next t ∧ t.bcu.switch = switchOf b1 b2 ∧ t.bcu.demand = s.bcu.demand ∧
      (let sw := switchOf b1 b2
       let same := t.bcu.state = s.bcu.state ∧ t.bcu.driver = s.bcu.driver ∧ t.bcu.timer = s.bcu.timer
       (sw = s.bcu.switch → t.bcu = s.bcu) ∧
       (sw ≠ s.bcu.switch →
         (sw = .invalid ∨ s.bcu.state = .preload ∨ s.bcu.state = .stuck → same) ∧
         (s.bcu.state = .released → sw = .engaged ∨ sw = .between →
           t.bcu.state = .releasing ∧ t.bcu.driver = true ∧ t.bcu.timer = some (.brake, 0)) ∧
         (s.bcu.state = .releasing → sw = .released → t.bcu.state = .released ∧ t.bcu.timer = none) ∧
         (s.bcu.state = .releasing → sw = .engaged ∨ sw = .between → same) ∧
         (s.bcu.state = .engaging → sw = .engaged → t.bcu.state = .engaged ∧ t.bcu.timer = none) ∧
         (s.bcu.state = .engaging → sw = .released ∨ sw = .between → same) ∧
         (s.bcu.state = .engaged → sw = .released ∨ sw = .between →
           t.bcu.state = .engaging ∧ t.bcu.driver = false ∧ t.bcu.timer = some (.brake, 0)) ∧
         (s.bcu.state = .heldOff → sw = .engaged → t.bcu.state = .engaged) ∧
         (s.bcu.state = .heldOff → sw = .released → same) ∧
         (s.bcu.state = .heldOff → sw = .between → t.bcu.state = .engaging ∧ t.bcu.timer = some (.brake, 0)))) ∧
      t = { s with pins := { s.pins with bks1Closed := b1, bks2Closed := b2 },
                   bcu := { s.bcu with state := t.bcu.state, driver := t.bcu.driver, timer := t.bcu.timer,
                                       switch := t.bcu.switch } }

/-- T_BRAKE_EXPIRY while the timer runs toward T_brake and has reached it, in ENGAGING by the switch and the partner flag, in
RELEASING by the switch: HELD_OFF, STUCK with its report, or a new wait; and T_PRELOAD_EXPIRY in PRELOAD: RELEASING, or
RELEASED at once. A timer that has not reached its limit, as when the demand has just started it again (R81), has no expiry:
that the model compares the time is its choice (log entry 7). The partner flag is that of R69. -/
def Obligations.BrakeTimerExpiries : Prop :=
  (∀ (s : State) (n : Nat), s.hasBcu = true → s.bcu.timer = some (.brake, n) → 300000 ≤ n →
    s.bcu.state = .engaging ∧ s.bcu.switch ≠ .engaged ∨ s.bcu.state = .releasing ∧ s.bcu.switch ≠ .released →
    let stuck := s.bcu.switch = .between ∨ (s.bcu.state = .releasing ∧ s.bcu.switch = .engaged) ∨
      (s.bcu.state = .engaging ∧ s.bcu.switch = .released ∧ s.partnerFlag = .off)
    let held := s.bcu.state = .engaging ∧ s.bcu.switch = .released ∧ s.partnerFlag = .on
    (stuck → exec .tBrakeExpiry s = .next { s with
      bcu := { s.bcu with state := .stuck, driver := s.bcu.demand, timer := none, invalidRun := 0, agreeRun := 0 }
      handed := s.handed ++ [.conditionReport .brakeStuck true] }) ∧
    (held → exec .tBrakeExpiry s = .next { s with bcu := { s.bcu with state := .heldOff, timer := none } }) ∧
    (¬stuck → ¬held → exec .tBrakeExpiry s = .next { s with bcu := { s.bcu with timer := some (.brake, 0) } })) ∧
  (∀ (s : State) (n : Nat), s.bcu.timer = some (.brake, n) → n < 300000 → exec .tBrakeExpiry s = .next s) ∧
  (∀ (s : State) (n : Nat), s.hasBcu = true → s.bcu.timer = some (.preload, n) → 50000 ≤ n → s.bcu.state = .preload →
    (s.bcu.switch = .released → exec .tPreloadExpiry s = .next { s with
      bcu := { s.bcu with state := .released, driver := true, timer := none } }) ∧
    (s.bcu.switch ≠ .released → exec .tPreloadExpiry s = .next { s with
      bcu := { s.bcu with state := .releasing, driver := true, timer := some (.brake, 0) } })) ∧
  (∀ (s : State) (n : Nat), s.bcu.timer = some (.preload, n) → n < 50000 → exec .tPreloadExpiry s = .next s) ∧
  (∀ s : State,
    (s.partnerFlag = .on ↔ s.cl.phase = .good ∧
      ∃ a c, s.partner = some a ∧ s.contribAt a = some (c, .fresh) ∧ c.driver = true) ∧
    (s.partnerFlag = .off ↔ s.cl.phase = .good ∧ (s.partner = none ∨
      ∃ a c, s.partner = some a ∧ s.contribAt a = some (c, .fresh) ∧ c.driver = false)) ∧
    (s.partnerFlag = .unknown ↔ s.cl.phase ≠ .good ∨
      ∃ a, s.partner = some a ∧ ∀ c, s.contribAt a ≠ some (c, .fresh)))

/-- The three events at which only the own demand is evaluated: the demand stored is the one R70 gives for the state as it
stands (with the top copy of a top-change notice), OFF exactly under R70's list; an unchanged demand leaves the brake as it
is; a demand that turns OFF or ON moves it by R71 and R72, an entry to ENGAGING or RELEASING that finds the switch there
already completing at once. That this look is made also where R81's third row names only ENGAGING is the model's reading
(log entry 31). -/
def Obligations.DemandIsEvaluatedAfresh : Prop :=
  (∀ (s : State) (c : Instr), s.hasBcu = true →
    ((∃ v st, c = .speedStatusChangeBcu v st) ∨ (∃ old new, c = .nodeStateChangeBcu old new) ∨
      (∃ top, c = .topChangeNoticeBcu top)) →
    ∃ t, exec c s = .next t ∧ t.bcu.demand = t.ownDemand ∧
      (∀ top, c = .topChangeNoticeBcu top → t.bcu.topCopy = top.map (fun q => (q.kind, q.angle))) ∧
      ((∀ top, c ≠ .topChangeNoticeBcu top) → t.bcu.topCopy = s.bcu.topCopy) ∧
      (t.bcu.demand = s.bcu.demand → t.bcu = { s.bcu with topCopy := t.bcu.topCopy }) ∧
      (s.bcu.demand = true → t.bcu.demand = false →
        (s.bcu.state.wanted = true → s.bcu.switch = .engaged →
          t.bcu.state = .engaged ∧ t.bcu.driver = false ∧ t.bcu.timer = none) ∧
        (s.bcu.state.wanted = true → s.bcu.switch ≠ .engaged →
          t.bcu.state = .engaging ∧ t.bcu.driver = false ∧ t.bcu.timer = some (.brake, 0)) ∧
        (s.bcu.state = .stuck → t.bcu.state = .stuck ∧ t.bcu.driver = false)) ∧
      (s.bcu.demand = false → t.bcu.demand = true →
        (s.bcu.state = .engaged → t.bcu.state = .preload ∧ t.bcu.driver = false ∧ t.bcu.timer = some (.preload, 0)) ∧
        (s.bcu.state = .engaging ∨ s.bcu.state = .heldOff → t.bcu.driver = true ∧
          (s.bcu.switch = .released → t.bcu.state = .released ∧ t.bcu.timer = none) ∧
          (s.bcu.switch ≠ .released → t.bcu.state = .releasing ∧ t.bcu.timer = some (.brake, 0))) ∧
        (s.bcu.state = .stuck → t.bcu.state = .stuck ∧ t.bcu.driver = true)) ∧
      t.bcu.switch = s.bcu.switch ∧ t.bcu.invalidRun = s.bcu.invalidRun ∧ t.bcu.agreeRun = s.bcu.agreeRun ∧
      t = { s with bcu := t.bcu, handed := s.handed.erase c }) ∧
  (∀ s : State, s.ownDemand = false ↔
    s.nsc.node = .start ∨ s.nsc.node = .listen ∨ s.nsc.node = .clamped ∨ s.nsc.node = .dormant ∨ s.nsc.node = .halted ∨
    (s.nsc.node.running = true ∧ ∃ angle phi om, s.bcu.topCopy = some (.park, angle) ∧
      s.mu.records.shaft.lastGood = some phi ∧ s.mu.records.rate.lastGood = some om ∧
      (phi - angle.getD 0).natAbs ≤ s.prm.tolPark ∧ om.natAbs ≤ s.prm.omegaPark ∧
      s.pvu.speedStatus.heard = true ∧ s.pvu.speed < s.prm.vStand))

/-- SWEEP_NOTICE_BCU: the demand is evaluated; where it is unchanged, an INVALID switch is counted to STUCK at 3, HELD_OFF
looks at the partner flag, and STUCK counts an agreeing switch, RELEASED under an ON demand or ENGAGED under an OFF one, to its
leaving at 3. Where it changes, the brake moves by R71 and R72, an entry that finds the switch there completing at once (log entry
31), and the counts are then made of the brake as moved; the premise on the demand rules out states that no run reaches
(StepKeepsBrakeSound). A report is made exactly where STUCK is entered or left. What the own demand and the partner flag are, DemandIsEvaluatedAfresh and BrakeTimerExpiries say. -/
def Obligations.SweepNoticeCountsTheSwitch : Prop :=
  ∀ (s : State) (n : SweepNotice), s.hasBcu = true →
    ∃ t, exec (.sweepNoticeBcu n) s = .next t ∧ t.bcu.demand = s.ownDemand ∧ t.bcu.switch = s.bcu.switch ∧
      (s.bcu.agrees = true ↔ (s.bcu.demand = true ∧ s.bcu.switch = .released) ∨
        (s.bcu.demand = false ∧ s.bcu.switch = .engaged)) ∧
      (s.ownDemand = s.bcu.demand →
        (s.bcu.state ≠ .stuck → s.bcu.switch = .invalid → 2 ≤ s.bcu.invalidRun →
          t.bcu = { s.bcu with state := .stuck, driver := s.bcu.demand, timer := none, invalidRun := 0, agreeRun := 0 } ∧
            t.handed = s.handed.erase (.sweepNoticeBcu n) ++ [.conditionReport .brakeStuck true]) ∧
        (s.bcu.state ≠ .stuck → s.bcu.switch = .invalid → s.bcu.invalidRun < 2 →
          t.bcu.invalidRun = s.bcu.invalidRun + 1) ∧
        (s.bcu.state ≠ .stuck → s.bcu.switch ≠ .invalid → t.bcu.invalidRun = 0) ∧
        (s.bcu.state = .heldOff → s.bcu.switch = .released ∨ s.bcu.switch = .between → s.partnerFlag = .off →
          t.bcu.state = .engaging ∧ t.bcu.timer = some (.brake, 0)) ∧
        (s.bcu.state = .heldOff → s.bcu.switch ≠ .invalid → s.partnerFlag ≠ .off → t.bcu.state = .heldOff) ∧
        (s.bcu.state ≠ .stuck → s.bcu.state ≠ .heldOff → s.bcu.switch ≠ .invalid →
          t.bcu = { s.bcu with invalidRun := 0 }) ∧
        (s.bcu.state = .stuck → s.bcu.agrees = true → 2 ≤ s.bcu.agreeRun →
          t.bcu = { s.bcu with state := if s.bcu.demand then .released else .engaged, agreeRun := 0 } ∧
            t.handed = s.handed.erase (.sweepNoticeBcu n) ++ [.conditionReport .brakeStuck false]) ∧
        (s.bcu.state = .stuck → s.bcu.agrees = true → s.bcu.agreeRun < 2 →
          t.bcu = { s.bcu with agreeRun := s.bcu.agreeRun + 1 }) ∧
        (s.bcu.state = .stuck → s.bcu.agrees = false → t.bcu = { s.bcu with agreeRun := 0 })) ∧
      (s.ownDemand ≠ s.bcu.demand → s.bcu.state = .stuck ∨ s.bcu.demand = s.bcu.state.wanted →
        let d := s.ownDemand
        let goal : Switch := if d then .released else .engaged
        let moved : Bcu :=
          if s.bcu.state = .stuck then { s.bcu with demand := d, driver := d }
          else if d = true ∧ s.bcu.state = .engaged then
            { s.bcu with demand := d, driver := false, state := .preload, timer := some (.preload, 0) }
          else if s.bcu.switch = goal then
            { s.bcu with demand := d, driver := d, state := if d then .released else .engaged, timer := none }
          else { s.bcu with demand := d, driver := d, state := if d then .releasing else .engaging, timer := some (.brake, 0) }
        (s.bcu.state ≠ .stuck → s.bcu.switch ≠ .invalid → t.bcu = { moved with invalidRun := 0 }) ∧
        (s.bcu.state ≠ .stuck → s.bcu.switch = .invalid → s.bcu.invalidRun < 2 →
          t.bcu = { moved with invalidRun := s.bcu.invalidRun + 1 }) ∧
        (s.bcu.state ≠ .stuck → s.bcu.switch = .invalid → 2 ≤ s.bcu.invalidRun →
          t.bcu = { s.bcu with demand := d, driver := d, state := .stuck, timer := none, invalidRun := 0, agreeRun := 0 } ∧
            t.handed = s.handed.erase (.sweepNoticeBcu n) ++ [.conditionReport .brakeStuck true]) ∧
        (s.bcu.state = .stuck → s.bcu.switch = goal → 2 ≤ s.bcu.agreeRun →
          t.bcu = { moved with state := if d then .released else .engaged, agreeRun := 0 } ∧
            t.handed = s.handed.erase (.sweepNoticeBcu n) ++ [.conditionReport .brakeStuck false]) ∧
        (s.bcu.state = .stuck → s.bcu.switch = goal → s.bcu.agreeRun < 2 →
          t.bcu = { moved with agreeRun := s.bcu.agreeRun + 1 }) ∧
        (s.bcu.state = .stuck → s.bcu.switch ≠ goal → t.bcu = { moved with agreeRun := 0 })) ∧
      ((t.bcu.state = .stuck ↔ s.bcu.state = .stuck) → t.handed = s.handed.erase (.sweepNoticeBcu n)) ∧
      t = { s with bcu := t.bcu, handed := t.handed }

/-! ## The measurement unit -/

/-- SWEEP_TIMER_EXPIRY from LISTEN to DORMANT: outside DORMANT a sweep is due at every expiry and in DORMANT at the
one that brings the dormant count to 16; a due sweep begins when the MU is IDLE and is skipped when one runs.
WHEEL_EDGE on a wired input: the first edge, an edge within 20 µs of the last, and any other. -/
def Obligations.SweepTimerAndWheelEdge : Prop :=
  (∀ s : State, s.nsc.node.live = true →
    let due := s.nsc.node ≠ .dormant ∨ 15 ≤ s.mu.dormantCount
    (due → s.mu.sweep = .idle → exec .sweepTimerExpiry s = .next { s with
      mu := { s.mu with sweepTimer := some 0, dormantCount := 0, sweep := .running1, buffer := [], readyTimer := some 0 } }) ∧
    (due → s.mu.sweep ≠ .idle → exec .sweepTimerExpiry s = .next { s with
      mu := { s.mu with sweepTimer := some 0, dormantCount := 0 } }) ∧
    (¬due → exec .sweepTimerExpiry s = .next { s with
      mu := { s.mu with sweepTimer := some 0, dormantCount := s.mu.dormantCount + 1 } })) ∧
  (∀ s : State, s.nsc.node.live = true → s.prm.pulseWired = true →
    (s.mu.edgeCount = 0 → exec .wheelEdge s = .next { s with mu := { s.mu with t1 := s.clock, edgeCount := 1 } }) ∧
    (s.mu.edgeCount ≠ 0 → (s.clock - s.mu.t1).toNat < 20 → exec .wheelEdge s = .next s) ∧
    (s.mu.edgeCount ≠ 0 → 20 ≤ (s.clock - s.mu.t1).toNat → exec .wheelEdge s = .next { s with
      mu := { s.mu with t0 := s.mu.t1, t1 := s.clock, edgeCount := min (s.mu.edgeCount + 1) 2 } })) ∧
  (∀ s : State, s.nsc.node.live = false ∨ s.prm.pulseWired = false → exec .wheelEdge s = .next s)

/-- READY_EVENT and READY_TIMEOUT while a sensor transaction waits: the word is judged by its check, its status and its range
in that order, its value is kept whatever the outcome, a timeout has none, and the end of a transaction begins the next. With
no select asserted neither has an effect, and before 40 µs of waiting there is no timeout (log entry 7). READY_EVENT names no
channel, and its word goes to the transaction that waits when it is taken, after a timeout as before one (log entry 32). -/
def Obligations.ReadyEndsATransaction : Prop :=
  (∀ (s : State) (w : BitVec 24),
    let sum := (w.extractLsb' 20 4).toNat + (w.extractLsb' 16 4).toNat + (w.extractLsb' 12 4).toNat + (w.extractLsb' 8 4).toNat
    let v := (w.extractLsb' 8 16).toInt
    let limit : Int := if s.mu.sweep = .running1 then (if s.role = .steer then 500 else 5000)
      else (if s.role = .steer then 2000 else 30000)
    let cause : MissCause := if (w.extractLsb' 0 4).toNat ≠ sum % 16 then .check
      else if w.extractLsb' 4 4 ≠ 0 then .status else if v.natAbs ≤ limit.natAbs then .none else .range
    (s.mu.sweep = .running1 → exec (.readyEvent w) s = .next { s with
      mu := { s.mu with buffer := [⟨cause, some v⟩], sweep := .running2, readyTimer := some 0 } }) ∧
    (s.mu.sweep = .running2 → exec (.readyEvent w) s = .next { s with
      mu := { s.mu with buffer := s.mu.buffer ++ [⟨cause, some v⟩], sweep := .running3, readyTimer := none } }) ∧
    (s.mu.sweep = .idle ∨ s.mu.sweep = .running3 → exec (.readyEvent w) s = .next s)) ∧
  (∀ (s : State) (n : Nat), s.mu.readyTimer = some n →
    (n < 40 → exec .readyTimeout s = .next s) ∧
    (40 ≤ n → s.mu.sweep = .running1 → exec .readyTimeout s = .next { s with
      mu := { s.mu with buffer := [⟨.timeout, none⟩], sweep := .running2, readyTimer := some 0 } }) ∧
    (40 ≤ n → s.mu.sweep = .running2 → exec .readyTimeout s = .next { s with
      mu := { s.mu with buffer := s.mu.buffer ++ [⟨.timeout, none⟩], sweep := .running3, readyTimer := none } })) ∧
  (∀ s : State, s.mu.sweep = .idle ∨ s.mu.sweep = .running3 → exec .readyTimeout s = .next s)

/-- CONVERSION_COMPLETE: the three results enter the role's records together and the other two records stay, the wheel speed
is worked out where the input is wired, the sweep state is IDLE, and the readers are handed the notice, in an order that the model
fixes (log entry 30). That the buffer is then empty is the model's choice (log entry 37). -/
def Obligations.ConversionCompletesTheSweep : Prop :=
  ∀ (s : State) (temp : Int) (a b : Reading), s.mu.sweep = .running3 → s.mu.buffer = [a, b] →
    ∃ t n, exec (.conversionComplete temp) s = .next t ∧
      (let r := s.mu.records
       let c : Reading := ⟨if -40 ≤ temp ∧ temp ≤ 150 then .none else .range, some temp⟩
       let put := Sample.apply s.prm.nHold s.clock
       (s.role = .steer → t.mu.records = { r with angle := put a r.angle, torque := put b r.torque, temp := put c r.temp }) ∧
       (s.role ≠ .steer → t.mu.records = { r with shaft := put a r.shaft, rate := put b r.rate, temp := put c r.temp })) ∧
      t.mu.sweep = .idle ∧ t.mu.buffer = [] ∧ t.mu.readyTimer = none ∧
      (let g := (s.clock - s.mu.t1).toNat
       let d := (s.mu.t1 - s.mu.t0).toNat
       (s.prm.pulseWired = false → t.mu.wheelSpeed = s.mu.wheelSpeed ∧ t.mu.edgeCount = s.mu.edgeCount) ∧
       (s.prm.pulseWired = true → 500000 ≤ g → t.mu.wheelSpeed = some 0 ∧ t.mu.edgeCount = 0) ∧
       (s.prm.pulseWired = true → g < 500000 → s.mu.edgeCount < 2 →
         t.mu.wheelSpeed = some 0 ∧ t.mu.edgeCount = s.mu.edgeCount) ∧
       (s.prm.pulseWired = true → g < 500000 → 2 ≤ s.mu.edgeCount →
         t.mu.wheelSpeed = some (min (s.prm.circ * 100000 / (s.prm.teeth * max g d)) 2500) ∧
           t.mu.edgeCount = s.mu.edgeCount)) ∧
      n.stamp = s.clock ∧ n.first = t.channel1.state ∧ n.second = t.channel2.state ∧ n.third = t.mu.records.temp.state ∧
      n.wheelSpeed = t.mu.wheelSpeed ∧
      t = { s with mu := { s.mu with records := t.mu.records, sweep := .idle, buffer := [], readyTimer := none,
                                     wheelSpeed := t.mu.wheelSpeed, edgeCount := t.mu.edgeCount },
                   handed := s.handed ++ [.sweepNoticePvu n, .sweepNoticeNsc n] ++
                     (if s.role = .steer then [.sweepNoticeSlu n] else [.sweepNoticeBcu n]) }

/-- A record at one result: a good read sets the value, the last good value and the stamp, ends the miss run and counts the good
run to 16; a miss sets the value (absent after a timeout), the last miss cause and the miss run, ends the good run and keeps the
last good value and its stamp. Then through a run of misses and a run of good reads: a GOOD record, and a HELD one that has had
no read since the reset, is HELD for as many misses as N_hold and FAILED from the next on, keeping its last good value, absent
where it had none; a FAILED one takes each good read's value but is GOOD only at the 16th in a row. That the miss run stops at
255 is R99's range. -/
def Obligations.RecordFailsAndRecovers : Prop :=
  (∀ (nHold : Nat) (now : Stamp) (value : Option Int) (q : Sample),
    let r := q.apply nHold now ⟨.none, value⟩
    (q.state = .good ∨ q.state = .held → r.state = .good) ∧
    (q.state = .failed → r.state = if q.goodRun + 1 < 16 then .failed else .good) ∧
    r = { q with state := r.state, value := value, lastGood := value, stamp := now, missRun := 0,
                 goodRun := min (q.goodRun + 1) 16 }) ∧
  (∀ (nHold : Nat) (now : Stamp) (cause : MissCause) (value : Option Int) (q : Sample), cause ≠ .none →
    let r := q.apply nHold now ⟨cause, value⟩
    (q.state = .good → r.state = .held) ∧ (q.state = .held → r.state = if r.missRun ≤ nHold then .held else .failed) ∧
    (q.state = .failed → r.state = .failed) ∧
    r = { q with state := r.state, value := value, missRun := min (q.missRun + 1) 255, goodRun := 0, lastMiss := cause }) ∧
  (∀ (nHold : Nat) (q : Sample) (l : List (Stamp × Reading)), 1 ≤ nHold → nHold ≤ 10 →
    q.state = .good ∨ q.state = .held → q.missRun = 0 → l ≠ [] → (∀ x ∈ l, x.2.cause ≠ .none) →
    let r := l.foldl (fun q x => q.apply nHold x.1 x.2) q
    r.state = (if l.length ≤ nHold then .held else .failed) ∧ r.lastGood = q.lastGood ∧ r.stamp = q.stamp ∧
      r.goodRun = 0 ∧ r.missRun = min l.length 255 ∧
      (∀ x, l.getLast? = some x → r.value = x.2.value ∧ r.lastMiss = x.2.cause)) ∧
  (∀ (nHold : Nat) (q : Sample) (l : List (Stamp × Int)), q.state = .failed → q.goodRun = 0 → l ≠ [] →
    let r := l.foldl (fun q x => q.apply nHold x.1 ⟨.none, some x.2⟩) q
    r.state = (if l.length < 16 then .failed else .good) ∧ r.lastGood = l.getLast?.map (fun x => x.2) ∧
      some r.stamp = l.getLast?.map (fun x => x.1) ∧ r.lastMiss = q.lastMiss)

/-! ## The peer view -/

/-- FRAME_DONE of a periodic frame that passes the checks: its record in the source's row is replaced, with the arrival stamp of
its SHUT, and no other record or row changes; a RIDER of the STEER station sets the view of a tilt role; the consensus is
that of the candidates as they then stand, or, with none used, the value kept and the status HELD or as it was; a view change
and a speed-status change are handed on, and the NSC is given the notice, the last; and the next head frame is taken. -/
def Obligations.PeriodicFrameIsApplied : Prop :=
  ∀ (s : State) (f : RxFrame) (n : Nat), s.nsc.node.live = true → s.pvu.processing = some (f, n) → f.src ≠ 15 →
    f.kind.periodic = true → lengthFits f.kind f.payload.length = true → s.roleFits f = true →
    ∃ t, exec .frameDone s = .next t ∧
      (f.kind = .rider → t.row f.src.toNat =
        { s.row f.src.toNat with rider := some (Rider.ofBytes f.payload, f.stamp) }) ∧
      (f.kind = .contrib → t.row f.src.toNat =
        { s.row f.src.toNat with contrib := some (Contrib.ofBytes f.payload, f.stamp) }) ∧
      (f.kind = .speed → ∀ v, extractSpeed s.prm f.payload = some v → t.row f.src.toNat =
        { s.row f.src.toNat with speed := some (v, f.stamp) }) ∧
      (f.kind = .speed → extractSpeed s.prm f.payload = none → t.row f.src.toNat = s.row f.src.toNat) ∧
      (∀ a, a ≠ f.src.toNat → t.row a = s.row a) ∧
      (s.role.isTilt = true → f.kind = .rider → s.roleOf f.src.toNat = .steer →
        t.pvu.view = clampMag 450 (Rider.ofBytes f.payload).delta.toInt ∧ t.pvu.viewHold = none ∧
        t.pvu.viewStatus = if (Rider.ofBytes f.payload).angleState = 0 then .live else .held) ∧
      (s.role.isTilt = false ∨ f.kind ≠ .rider ∨ s.roleOf f.src.toNat ≠ .steer →
        t.pvu.view = s.pvu.view ∧ t.pvu.viewStatus = s.pvu.viewStatus ∧ t.pvu.viewHold = s.pvu.viewHold) ∧
      (∀ v st, consensusOf (usedValues t.candidates) = some (v, st) →
        t.pvu.speed = v ∧ t.pvu.speedStatus = st ∧ t.pvu.speedHold = none) ∧
      (consensusOf (usedValues t.candidates) = none → t.pvu.speed = s.pvu.speed ∧
        (s.pvu.speedStatus = .valid ∨ s.pvu.speedStatus = .single →
          t.pvu.speedStatus = .held ∧ t.pvu.speedHold = some 0) ∧
        (s.pvu.speedStatus = .held ∨ s.pvu.speedStatus = .lost →
          t.pvu.speedStatus = s.pvu.speedStatus ∧ t.pvu.speedHold = s.pvu.speedHold)) ∧
      t.candidates.map (usesCandidate t.candidates) =
        [t.pvu.used.own, t.pvu.used.drive, t.pvu.used.peer1, t.pvu.used.peer2] ∧
      t.handed = s.handed ++ (if t.pvu.viewStatus = s.pvu.viewStatus then [] else [.viewChange t.pvu.viewStatus]) ++
        (if t.pvu.speed = s.pvu.speed ∧ t.pvu.speedStatus = s.pvu.speedStatus then []
         else s.speedNotices t.pvu.speed t.pvu.speedStatus) ++ [.frameNotice f.src f.kind] ∧
      t.pvu.processing = s.bi.rfq.head?.map (fun g => (g, 0)) ∧ t.bi = { s.bi with rfq := s.bi.rfq.tail } ∧
      t = { s with pvu := { t.pvu with roster := s.pvu.roster, rowSweep := s.pvu.rowSweep }, bi := t.bi,
                   handed := t.handed }

/-- FRAME_DONE of a command frame that passes the checks hands its fields to its owner, with the source and its roster role
(and, for a QUERY or CLEAR, the DEST byte), re-evaluates the consensus and gives the notice, in that order; a frame of a wrong
length, or a CONTRIB whose role field is not its source's roster role, reaches no row, no owner and gives no notice, the latter being
reported as a link conflict, and still has the consensus re-evaluated. No row and no view changes, the next head frame is taken, and
the other blocks stay. -/
def Obligations.CommandFrameIsHandedAndBadFrameDiscarded : Prop :=
  ∀ (s : State) (f : RxFrame) (n : Nat), s.nsc.node.live = true → s.pvu.processing = some (f, n) →
    ∃ t l, exec .frameDone s = .next t ∧ t.handed = s.handed ++ l ∧ t.bi = { s.bi with rfq := s.bi.rfq.tail } ∧
      t.pvu.processing = s.bi.rfq.head?.map (fun g => (g, 0)) ∧
      (let p := f.payload
       let fits := lengthFits f.kind p.length = true
       let role := s.roleOf f.src.toNat
       let changes := if t.pvu.speed = s.pvu.speed ∧ t.pvu.speedStatus = s.pvu.speedStatus then []
         else s.speedNotices t.pvu.speed t.pvu.speedStatus
       let untouched := t.pvu.table = s.pvu.table ∧ t.pvu.view = s.pvu.view ∧ t.pvu.viewStatus = s.pvu.viewStatus ∧
         t.pvu.viewHold = s.pvu.viewHold
       (f.kind = .halt → p.length = 2 →
         l = .haltHandoff f.src (byteAt p 0) (byteAt p 1) role :: changes ++ [.frameNotice f.src .halt]) ∧
       (f.kind = .override → p.length = 6 →
         l = .overrideRequest f.src role (byteAt p 0) (byteAt p 1) (byteAt p 2 ++ byteAt p 3) (byteAt p 4 ++ byteAt p 5) ::
           changes ++ [.frameNotice f.src .override]) ∧
       (f.kind = .release → p.length = 1 →
         l = .releaseRequest f.src (byteAt p 0) role :: changes ++ [.frameNotice f.src .release]) ∧
       (∀ d, f.kind = .query → p.length = 3 → f.dest = some d →
         l = queryCommand (byteAt p 0) (byteAt p 1) (byteAt p 2) ⟨f.src, role, d⟩ :: changes ++ [.frameNotice f.src .query]) ∧
       (∀ d, f.kind = .clear → p.length = 1 → f.dest = some d →
         l = clearCommand (byteAt p 0) ⟨f.src, role, d⟩ :: changes ++ [.frameNotice f.src .clear]) ∧
       (f.kind.periodic = false → untouched) ∧
       (¬fits → untouched ∧ l = changes) ∧
       (fits → f.kind = .contrib → (Contrib.ofBytes p).role.toNat ≠ roleCode (s.roleOf f.src.toNat) →
         untouched ∧ l = .conditionReport .linkConflict true :: changes)) ∧
      (∀ v st, consensusOf (usedValues t.candidates) = some (v, st) →
        t.pvu.speed = v ∧ t.pvu.speedStatus = st ∧ t.pvu.speedHold = none) ∧
      (consensusOf (usedValues t.candidates) = none → t.pvu.speed = s.pvu.speed ∧
        (s.pvu.speedStatus = .valid ∨ s.pvu.speedStatus = .single →
          t.pvu.speedStatus = .held ∧ t.pvu.speedHold = some 0) ∧
        (s.pvu.speedStatus = .held ∨ s.pvu.speedStatus = .lost →
          t.pvu.speedStatus = s.pvu.speedStatus ∧ t.pvu.speedHold = s.pvu.speedHold)) ∧
      t.candidates.map (usesCandidate t.candidates) =
        [t.pvu.used.own, t.pvu.used.drive, t.pvu.used.peer1, t.pvu.used.peer2] ∧
      t = { s with pvu := { t.pvu with roster := s.pvu.roster, rowSweep := s.pvu.rowSweep }, bi := t.bi,
                   handed := t.handed }

/-- The speed a SPEED payload gives: none when the field or the validity bit does not fit in the payload or the bit differs from
the sense; else the field read as a number, sign-extended where signed, scaled with the floor taken before the bias and the
magnitude capped at 2500. -/
def Obligations.SpeedExtraction : Prop :=
  ∀ (p : Params) (payload : List Byte), 1 ≤ p.spdWidth →
    (let number := payload.foldl (fun n b => n * 256 + b.toNat) 0
     let bits := 8 * payload.length
     let valid := p.valPresent = false ∨ (p.valOffset < bits ∧ number.testBit (bits - 1 - p.valOffset) = p.valSense)
     let field : Nat := number / 2 ^ (bits - p.spdOffset - p.spdWidth) % 2 ^ p.spdWidth
     let raw : Int := if p.spdSigned = true ∧ 2 ^ (p.spdWidth - 1) ≤ field then (field : Int) - 2 ^ p.spdWidth else field
     (bits < p.spdOffset + p.spdWidth → extractSpeed p payload = none) ∧
     (¬valid → extractSpeed p payload = none) ∧
     (p.spdOffset + p.spdWidth ≤ bits → valid →
       extractSpeed p payload = some (min ((raw * p.spdMult).fdiv (2 ^ p.spdShift) + p.spdBias).natAbs 2500)))

/-- The consensus of the values used does not depend on their order: none gives none, one is SINGLE, two give the floor of
their mean, three the middle one, four the floor of the mean of the middle two. -/
def Obligations.ConsensusOfUsedValues : Prop :=
  consensusOf [] = none ∧ (∀ a, consensusOf [a] = some (a, .single)) ∧
    (∀ l m : List Nat, l.Perm m → consensusOf l = consensusOf m) ∧
    (∀ a b, consensusOf [a, b] = some ((a + b) / 2, .valid)) ∧
    (∀ a b c, a ≤ b → b ≤ c → consensusOf [a, b, c] = some (b, .valid)) ∧
    (∀ a b c d, a ≤ b → b ≤ c → c ≤ d → consensusOf [a, b, c, d] = some ((b + c) / 2, .valid))

/-- The re-evaluations at SWEEP_NOTICE_PVU and at a SPEED_HOLD_EXPIRY whose timer has run H_v: with a candidate used, the
consensus of those used and the hold timer stopped; with none, the value kept and the status HELD with the timer started, HELD
as it was, LOST as it was, or, at the expiry, LOST. A change is handed on. In the STEER role the notice then sets the view from
the own record. A hold timer that has not run H_v has no expiry, which is the model's choice (log entry 7), as is the order in which
a speed change is handed to the LE, the BCU and the NSC, before a change of the view (log entry 30). Then the candidates themselves, the own pulse, the DRIVE and the TS44 peers in address order, the wheel speed read as it stands (log
entry 34), and which of them a re-evaluation uses: the FRESH ones where two or more are FRESH, and else the FRESH and the AGING
ones. The address of a role is the lowest that holds it. -/
def Obligations.ConsensusIsReevaluated : Prop :=
  (∀ (s : State) (c : Instr) (expiry : Bool), s.nsc.node.live = true →
    ((expiry = false ∧ ∃ n, c = .sweepNoticePvu n) ∨
      (expiry = true ∧ c = .speedHoldExpiry ∧ (∃ n, s.pvu.speedHold = some n ∧ s.prm.hV * 1000 ≤ n) ∧
        s.pvu.speedStatus = .held)) →
    ∃ t, exec c s = .next t ∧
      (∀ v st, consensusOf (usedValues s.candidates) = some (v, st) →
        t.pvu.speed = v ∧ t.pvu.speedStatus = st ∧ t.pvu.speedHold = none) ∧
      (consensusOf (usedValues s.candidates) = none → t.pvu.speed = s.pvu.speed ∧
        (s.pvu.speedStatus = .valid ∨ s.pvu.speedStatus = .single →
          t.pvu.speedStatus = .held ∧ t.pvu.speedHold = some 0) ∧
        (s.pvu.speedStatus = .held → expiry = false → t.pvu.speedStatus = .held ∧ t.pvu.speedHold = s.pvu.speedHold) ∧
        (expiry = true → t.pvu.speedStatus = .lost ∧ t.pvu.speedHold = none) ∧
        (s.pvu.speedStatus = .lost → t.pvu.speedStatus = .lost)) ∧
      s.candidates.map (usesCandidate s.candidates) =
        [t.pvu.used.own, t.pvu.used.drive, t.pvu.used.peer1, t.pvu.used.peer2] ∧
      t.handed = (if expiry = true then s.handed else s.handed.erase c) ++
        (if t.pvu.speed = s.pvu.speed ∧ t.pvu.speedStatus = s.pvu.speedStatus then []
         else s.speedNotices t.pvu.speed t.pvu.speedStatus) ++
        (if t.pvu.viewStatus = s.pvu.viewStatus then [] else [.viewChange t.pvu.viewStatus]) ∧
      (s.role ≠ .steer ∨ expiry = true → t.pvu.view = s.pvu.view ∧ t.pvu.viewStatus = s.pvu.viewStatus ∧
        t.pvu.viewHold = s.pvu.viewHold) ∧
      (∀ d, s.role = .steer → expiry = false → s.mu.records.angle.lastGood = some d →
        (s.mu.records.angle.state = .good →
          t.pvu.view = d ∧ t.pvu.viewStatus = .live ∧ t.pvu.viewHold = none) ∧
        (s.mu.records.angle.state = .held →
          t.pvu.view = d ∧ t.pvu.viewStatus = .held ∧ t.pvu.viewHold = none)) ∧
      (s.role = .steer → expiry = false → s.mu.records.angle.state = .failed ∨
          (s.mu.records.angle.state = .held ∧ s.mu.records.angle.lastGood = none) → t.pvu.view = s.pvu.view ∧
        (s.pvu.viewStatus = .live → t.pvu.viewStatus = .held ∧ t.pvu.viewHold = some 0) ∧
        (s.pvu.viewStatus = .held → t.pvu.viewStatus = .held ∧ t.pvu.viewHold = some (s.pvu.viewHold.getD 0)) ∧
        (s.pvu.viewStatus = .ramping → t.pvu.viewStatus = .ramping ∧ t.pvu.viewHold = s.pvu.viewHold)) ∧
      t = { s with pvu := { t.pvu with table := s.pvu.table, roster := s.pvu.roster, processing := s.pvu.processing,
                                       rowSweep := s.pvu.rowSweep }, handed := t.handed }) ∧
  (∀ (s : State) (n : Nat), s.pvu.speedHold = some n → n < s.prm.hV * 1000 → exec .speedHoldExpiry s = .next s) ∧
  (∀ s : State, ∃ own drive p q, s.candidates = [own, drive, p, q] ∧
    own.value = (if s.prm.pulseWired = true then s.mu.wheelSpeed else none) ∧ (own.value ≠ none → own.fresh = .fresh) ∧
    (s.addrOf .drive = none → drive.value = none) ∧
    (∀ a, s.addrOf .drive = some a → drive.fresh = s.freshOf a (s.row a).speed ∧
      drive.value = if drive.fresh = .empty then none else (s.row a).speed.map (fun x => x.1)) ∧
    ∀ (k : Nat) (peer : Candidate), [p, q][k]? = some peer →
      (s.peers[k]? = none → peer.value = none) ∧
      (∀ a, s.peers[k]? = some a → peer.fresh = s.freshOf a (s.row a).contrib ∧
        (∀ c st, (s.row a).contrib = some (c, st) → peer.fresh ≠ .empty → c.pulse ≠ 0xFFFF →
          peer.value = some (min c.pulse.toNat 2500)) ∧
        ((s.row a).contrib = none ∨ peer.fresh = .empty ∨ (∃ c st, (s.row a).contrib = some (c, st) ∧ c.pulse = 0xFFFF) →
          peer.value = none))) ∧
  (∀ l : List Candidate,
    (let isFresh (c : Candidate) : Prop := c.value ≠ none ∧ c.fresh = .fresh
     let isAging (c : Candidate) : Prop := c.value ≠ none ∧ c.fresh = .aging
     let several := ∃ before a between b after, l = before ++ a :: between ++ b :: after ∧ isFresh a ∧ isFresh b
     (several → ∀ c, usesCandidate l c = true ↔ isFresh c) ∧
     (¬several → ∀ c, usesCandidate l c = true ↔ isFresh c ∨ isAging c) ∧
     usedValues l = (l.filter (usesCandidate l)).filterMap (fun c => c.value))) ∧
  (∀ s : State,
    (∀ r a, s.addrOf r = some a ↔ a < 15 ∧ s.roleOf a = r ∧ ∀ b, b < a → s.roleOf b ≠ r) ∧
    (∀ r, s.addrOf r = none ↔ ∀ a, a < 15 → s.roleOf a ≠ r) ∧
    (∀ a, a ∈ s.peers ↔ a < 15 ∧ a ≠ s.cl.ownAddr.toNat ∧
      (s.roleOf a = .tiltA ∨ s.roleOf a = .tiltB ∨ s.roleOf a = .steer)) ∧ s.peers.Pairwise (fun a b => a < b)) ∧
  (∀ (s : State) (v : Nat) (st : SpeedStatus), s.speedNotices v st =
    if s.role = .steer then [.speedStatusChangeLe v st, .speedStatusChangeNsc v st]
    else [.speedStatusChangeLe v st, .speedStatusChangeBcu v st, .speedStatusChangeNsc v st])

/-- HANDLEBAR_RAMP_STEP: in a tilt role a silent STEER row takes a LIVE view to HELD with the timer started and starts a stopped
one; then a RAMPING view, and no other, moves toward 0 by R_δ and stops there; a change of the view status, and nothing else, is
handed on. Silent means that the RIDER record of the STEER station's row is neither FRESH nor AGING. HANDLEBAR_HOLD_EXPIRY at H_δ makes the view
RAMPING with its value kept; before H_δ the timer has no expiry, which is the model's choice (log entry 7). -/
def Obligations.HandlebarViewHoldsAndRamps : Prop :=
  (∀ s : State, s.nsc.node.live = true →
    ∃ t, exec .handlebarRampStep s = .next t ∧
      (s.pvu.viewStatus = .ramping → t.pvu.viewStatus = .ramping ∧ t.pvu.view.natAbs = s.pvu.view.natAbs - s.prm.rDelta ∧
        0 ≤ t.pvu.view * s.pvu.view ∧ t.pvu.viewHold = s.pvu.viewHold) ∧
      (s.pvu.viewStatus ≠ .ramping → t.pvu.view = s.pvu.view) ∧
      (s.pvu.viewStatus = .live → s.role.isTilt = true → s.riderFresh.heard = false →
        t.pvu.viewStatus = .held ∧ t.pvu.viewHold = some 0) ∧
      (s.pvu.viewStatus = .held → s.role.isTilt = true → s.riderFresh.heard = false →
        t.pvu.viewStatus = .held ∧ t.pvu.viewHold = some (s.pvu.viewHold.getD 0)) ∧
      (s.pvu.viewStatus ≠ .ramping → s.role.isTilt = false ∨ s.riderFresh.heard = true → t.pvu = s.pvu) ∧
      t.handed = s.handed.erase .handlebarRampStep ++
        (if t.pvu.viewStatus = s.pvu.viewStatus then [] else [.viewChange t.pvu.viewStatus]) ∧
      t = { s with pvu := { s.pvu with view := t.pvu.view, viewStatus := t.pvu.viewStatus, viewHold := t.pvu.viewHold },
                   handed := t.handed }) ∧
  (∀ s : State, (∀ a, s.addrOf .steer = some a → s.riderFresh = s.freshOf a (s.row a).rider) ∧
    (s.addrOf .steer = none → s.riderFresh = .empty)) ∧
  (∀ (s : State) (n : Nat), s.nsc.node.live = true → s.pvu.viewHold = some n → s.pvu.viewStatus = .held →
    (s.prm.hDelta * 1000 ≤ n → exec .handlebarHoldExpiry s = .next { s with
      pvu := { s.pvu with viewStatus := .ramping, viewHold := none }, handed := s.handed ++ [.viewChange .ramping] }) ∧
    (n < s.prm.hDelta * 1000 → exec .handlebarHoldExpiry s = .next s))

/-- ROW_SWEEP_EXPIRY from LISTEN to DORMANT removes the records whose age exceeds 30 s and no other, so that no reader's
freshness changes. Then the freshness itself, derived from the age at each read: EMPTY where the record is absent or older than
30 s, FRESH up to F, AGING up to S_row and STALE beyond, S_row being 250 ms exactly where the row's CONTRIB record is not EMPTY
and reports DORMANT; and the CONTRIB record of an address, of a role and of the partner. -/
def Obligations.RowSweepRemovesOldRecordsOnly : Prop :=
  (∀ s : State, s.nsc.node.live = true →
    ∃ t, exec .rowSweepExpiry s = .next t ∧ t.pvu.rowSweep = some 0 ∧
      (∀ a, (t.row a).rider = (s.row a).rider.filter (fun q => (s.clock - q.2).toNat ≤ 30000000) ∧
        (t.row a).contrib = (s.row a).contrib.filter (fun q => (s.clock - q.2).toNat ≤ 30000000) ∧
        (t.row a).speed = (s.row a).speed.filter (fun q => (s.clock - q.2).toNat ≤ 30000000)) ∧
      (∀ a, t.freshOf a (t.row a).rider = s.freshOf a (s.row a).rider ∧
        t.freshOf a (t.row a).contrib = s.freshOf a (s.row a).contrib ∧
        t.freshOf a (t.row a).speed = s.freshOf a (s.row a).speed) ∧
      t = { s with pvu := { s.pvu with table := t.pvu.table, rowSweep := some 0 } }) ∧
  (∀ (α : Type) (s : State) (a : Nat) (x : α) (st : Stamp),
    (let g := (s.clock - st).toNat
     let f := s.freshOf a (some (x, st))
     s.freshOf a (none : Option (α × Stamp)) = .empty ∧ (f = .empty ↔ 30000000 < g) ∧
     (f = .fresh ↔ g ≤ 30000000 ∧ g ≤ s.prm.fresh * 1000) ∧
     (f = .aging ↔ g ≤ 30000000 ∧ s.prm.fresh * 1000 < g ∧ g ≤ s.sRow a) ∧
     (f = .stale ↔ g ≤ 30000000 ∧ s.prm.fresh * 1000 < g ∧ s.sRow a < g))) ∧
  (∀ (s : State) (a : Nat),
    (let dormant := ∃ c st, (s.row a).contrib = some (c, st) ∧ (s.clock - st).toNat ≤ 30000000 ∧ c.nodeState = 6
     (dormant → s.sRow a = 250000) ∧ (¬dormant → s.sRow a = s.prm.stale * 1000))) ∧
  (∀ f : Freshness, f.heard = true ↔ f = .fresh ∨ f = .aging) ∧
  (∀ (s : State) (a : Nat) (c : Contrib) (f : Freshness), s.contribAt a = some (c, f) ↔
    ∃ st, (s.row a).contrib = some (c, st) ∧ f = s.freshOf a (some (c, st))) ∧
  (∀ (s : State) (r : Role) (c : Contrib) (f : Freshness), s.contribOf r = some (c, f) ↔
    ∃ a, s.addrOf r = some a ∧ s.contribAt a = some (c, f)) ∧
  (∀ (s : State) (c : Contrib) (f : Freshness), s.partnerContrib = some (c, f) ↔
    ∃ a, s.partner = some a ∧ s.contribAt a = some (c, f)) ∧
  (∀ s : State, s.partner = if s.role = .tiltA then s.addrOf .tiltB else if s.role = .tiltB then s.addrOf .tiltA else none)

/-! ## The node state controller -/

/-- CONDITION_REPORT: a state the present set holds already changes no condition, latch or node state; a condition
newly present is set with its latch and acts by its class; one reported absent is cleared with its latch kept, but for
the event conditions and CONFIG_BAD, which no report clears (log entry 25). A new OVERLEAN first fills the HALT slot with
reason 1 and the own address; that an OVERLEAN the present set holds already fills nothing is the model's choice (log entry
23). FREE or CLAMPED is chosen by the speed of the latest speed-status change the NSC has taken, which is how the model
settles R153's fifth row (log entry 10). A change of the node state is handed on. The dormant dwell is evaluated (log entry 12),
with the consensus speed as it stands (log entry 10), and the rejoin timer runs after the event exactly as R149 says. A serious
condition in LISTEN keeps the join count, which the next period notice sets to 0 (log entry 13), and an entry to FREE or CLAMPED keeps the
clear run (log entry 36). Then the classes of R139. -/
def Obligations.ConditionReportActsByClass : Prop :=
  (∀ (s : State) (c : Condition) (b : Bool),
    ∃ t, exec (.conditionReport c b) s = .next t ∧
      (∀ d, d ≠ c → t.nsc.present.has d = s.nsc.present.has d ∧ t.nsc.latches.has d = s.nsc.latches.has d) ∧
      (s.nsc.present.has c = b → t.nsc = { s.nsc with rejoin := t.nsc.rejoin, dormantDwell := t.nsc.dormantDwell } ∧
        t.bi = s.bi) ∧
      (b = false → s.nsc.present.has c = true → t.nsc.node = s.nsc.node ∧ t.bi = s.bi ∧
        t.nsc.latches.has c = s.nsc.latches.has c ∧ t.nsc.clearRun = s.nsc.clearRun ∧
        t.nsc.present.has c = (isEvent c || c == .configBad)) ∧
      (b = true → s.nsc.present.has c = false →
        (let away : NodeState :=
           if s.role = .steer ∨ c = .voteOutlier ∨ s.prm.vFree ≤ s.nsc.speed.value then .free else .clamped
         let out := s.nsc.node = .active ∨ s.nsc.node = .degraded ∨ s.nsc.node = .dormant
         t.nsc.present.has c = true ∧ t.nsc.latches.has c = (isLatched c || s.nsc.latches.has c) ∧
         (isSerious c = true → out → t.nsc.node = away ∧ t.nsc.flt = true) ∧
         (isSerious c = true → s.nsc.node = .listen → c = .overlean ∨ c = .haltTaken → t.nsc.node = away ∧ t.nsc.flt = true) ∧
         (isDegrading c = true → out → t.nsc.node = .degraded ∧ t.nsc.clearRun = 0) ∧
         (isDegrading c = false ∨ ¬out → t.nsc.clearRun = s.nsc.clearRun) ∧
         (c = .configBad → s.nsc.node = .start → t.nsc.node = .halted ∧ t.nsc.flt = true) ∧
         (¬(out ∧ (isSerious c = true ∨ isDegrading c = true)) → ¬(s.nsc.node = .listen ∧ (c = .overlean ∨ c = .haltTaken)) →
           ¬(s.nsc.node = .start ∧ c = .configBad) → t.nsc.node = s.nsc.node ∧ t.nsc.flt = s.nsc.flt) ∧
         (c = .overlean → s.bi.tx ≠ .off → t.bi = { s.bi with
           slots := { s.bi.slots with halt := some ⟨[1, BitVec.ofNat 8 s.cl.ownAddr.toNat], 0⟩ }
           tx := if s.bi.tx = .idle then .waitGap else s.bi.tx }) ∧
         (c ≠ .overlean → t.bi = s.bi))) ∧
      t.handed = s.handed.erase (.conditionReport c b) ++
        (if t.nsc.node = s.nsc.node then [] else s.nodeNotices s.nsc.node t.nsc.node) ∧
      dormantRuns s t s.pvu.speed s.pvu.speedStatus ∧ rejoinRuns s t ∧
      t = { s with nsc := { s.nsc with node := t.nsc.node, flt := t.nsc.flt, present := t.nsc.present,
                                       latches := t.nsc.latches, clearRun := t.nsc.clearRun, rejoin := t.nsc.rejoin,
                                       dormantDwell := t.nsc.dormantDwell }, bi := t.bi, handed := t.handed }) ∧
  (∀ c : Condition,
    (isSerious c = true ↔
      c ∈ [.overlean, .haltTaken, .sensorFailed, .speedLost, .voteOutlier, .bridgeFault]) ∧
    (isDegrading c = true ↔ c ∈ [.disagree, .partnerAbsent, .inputHeld]) ∧
    (isLatched c = true ↔ c ∈ [.overlean, .haltTaken, .sensorFailed, .brakeStuck, .voteOutlier, .bridgeFault, .linkConflict,
      .queueOverrun]) ∧
    (isEvent c = true ↔ c ∈ [.haltTaken, .linkConflict, .queueOverrun]))

/-- HALT_HANDOFF from LISTEN to DORMANT: the last HALT is stored, HALT_TAKEN is latched and present, a node that is not in FREE
or CLAMPED goes there, and the rejoin timer is stopped. A change of the node state goes to the
LE, to the TSU and the BCU in a tilt role and to the SLU in the STEER role, in an order that the model fixes (log entry 30). FREE
or CLAMPED is chosen by the speed of the latest speed-status change the NSC has taken (log entry 10), and the clear run is kept
(log entry 36). -/
def Obligations.HaltTakesTheNodeOut : Prop :=
  (∀ (s : State) (src : Addr) (reason detail : Byte) (role : Role), s.nsc.node.live = true →
    ∃ t, exec (.haltHandoff src reason detail role) s = .next t ∧ t.nsc.lastHalt = some ⟨src, reason, detail⟩ ∧
      t.nsc.latches.has .haltTaken = true ∧ t.nsc.present.has .haltTaken = true ∧ t.nsc.rejoin = none ∧
      (∀ d, d ≠ .haltTaken → t.nsc.present.has d = s.nsc.present.has d ∧ t.nsc.latches.has d = s.nsc.latches.has d) ∧
      (s.nsc.node = .free ∨ s.nsc.node = .clamped → t.nsc.node = s.nsc.node ∧ t.nsc.flt = s.nsc.flt ∧
        t.nsc.dormantDwell = s.nsc.dormantDwell ∧ t.handed = s.handed.erase (.haltHandoff src reason detail role)) ∧
      (s.nsc.node ≠ .free → s.nsc.node ≠ .clamped →
        t.nsc.node = (if s.role = .steer ∨ s.prm.vFree ≤ s.nsc.speed.value then .free else .clamped) ∧ t.nsc.flt = true ∧
          t.nsc.dormantDwell = none ∧
          t.handed = s.handed.erase (.haltHandoff src reason detail role) ++ s.nodeNotices s.nsc.node t.nsc.node) ∧
      t = { s with nsc := { t.nsc with topCopy := s.nsc.topCopy, joinCount := s.nsc.joinCount, clearRun := s.nsc.clearRun,
                                       sendCount := s.nsc.sendCount, entryLean := s.nsc.entryLean,
                                       speed := s.nsc.speed }, handed := t.handed }) ∧
  (∀ (s : State) (old new : NodeState),
    (s.role.isTilt = true → s.nodeNotices old new =
      [.nodeStateChangeLe old new, .nodeStateChangeTsu old new, .nodeStateChangeBcu old new]) ∧
    (s.role = .steer → s.nodeNotices old new = [.nodeStateChangeLe old new, .nodeStateChangeSlu old new]))

/-- FRAME_NOTICE and WAKE_CAUSE_REPORT: a DORMANT node wakes to ACTIVE at a request or service frame, at a STEER RIDER whose
torque exceeds the wake threshold (tilt roles), at a tilt CONTRIB after which the lean has moved by more than 100 (STEER), and
at any speed candidate, FRESH or AGING, above v_stand; at no other notice, and no other state is moved. The clear run is then 0
(log entry 36). -/
def Obligations.NoticesWakeADormantNode : Prop :=
  (∀ (s : State) (src : Addr) (k : FrameKind),
    (let cause := k = .override ∨ k = .release ∨ k = .query ∨ k = .clear ∨
       (k = .rider ∧ s.role.isTilt = true ∧ s.roleOf src.toNat = .steer ∧
         ∃ r st, (s.row src.toNat).rider = some (r, st) ∧ s.prm.wake < r.tauH.toInt.natAbs) ∨
       (k = .contrib ∧ s.role = .steer ∧ (s.roleOf src.toNat).isTilt = true ∧
         ∃ x y, s.measured = some x ∧ s.nsc.entryLean = some y ∧ 100 < (x - y).natAbs) ∨
       (∃ c ∈ s.candidates, ∃ v, c.value = some v ∧ c.fresh.heard = true ∧ s.prm.vStand < v)
     ∃ t, exec (.frameNotice src k) s = .next t ∧
       (s.nsc.node = .dormant → cause → t.nsc.node = .active ∧ t.nsc.flt = false ∧ t.nsc.joinCount = 0 ∧ t.nsc.clearRun = 0 ∧
         t.nsc.rejoin = none ∧ t.handed = s.handed.erase (.frameNotice src k) ++ s.nodeNotices .dormant .active) ∧
       (s.nsc.node ≠ .dormant ∨ ¬cause → t = { s with handed := s.handed.erase (.frameNotice src k) }) ∧
       t = { s with nsc := { s.nsc with node := t.nsc.node, flt := t.nsc.flt, joinCount := t.nsc.joinCount,
                                        clearRun := t.nsc.clearRun, rejoin := t.nsc.rejoin }, handed := t.handed })) ∧
  (∀ s : State, (s.nsc.node = .dormant → exec .wakeCauseReport s = .next { s with
      nsc := { s.nsc with node := .active, flt := false, joinCount := 0, clearRun := 0, rejoin := none }
      handed := s.handed.erase .wakeCauseReport ++ s.nodeNotices .dormant .active }) ∧
    (s.nsc.node ≠ .dormant → exec .wakeCauseReport s = .next { s with handed := s.handed.erase .wakeCauseReport }))

/-- The NSC's own conditions at the sources' events, from LISTEN to DORMANT. SWEEP_NOTICE_NSC sets SENSOR_FAILED, with its latch,
and INPUT_HELD, and then makes the wake tests of R152; SPEED_STATUS_CHANGE_NSC sets SPEED_LOST and INPUT_HELD and takes CLAMPED
to FREE at v_free; VIEW_CHANGE sets INPUT_HELD; BFLT_CHANGE sets BRIDGE_FAULT, with its latch, in a tilt role. A serious
condition newly present takes ACTIVE, DEGRADED and DORMANT to FREE or CLAMPED, and INPUT_HELD newly present takes ACTIVE and
DORMANT to DEGRADED and sets the clear run of DEGRADED to 0; every other condition stays, and the rejoin timer runs after each
event exactly as R149 says. The speed used is that of the latest speed-status change the NSC has taken, the one handed over
included (log entry 10); the records and the view are read as they stand (log entry 35). SPEED_STATUS_CHANGE_NSC leaves DORMANT
where it is, waking being left to the notices of R152 (log entry 17), and evaluates the dormant dwell, as the other three do not
(log entry 12). At a serious condition in LISTEN none of the four touches the join count, which the next period notice sets to 0
(log entry 13), nor, at an entry to FREE or CLAMPED, the clear run (log entry 36). Where one event makes a serious condition and
INPUT_HELD present, the serious one acts first and no passage through DEGRADED is handed on (log entry 38). In START and HALTED none of the four touches a
condition. -/
def Obligations.SourcesSetTheirConditions : Prop :=
  (∀ (s : State) (n : SweepNotice), s.nsc.node.live = true →
    ∃ t, exec (.sweepNoticeNsc n) s = .next t ∧
      (let failed := n.first = .failed ∨ n.second = .failed
       let held := n.first = .held ∨ n.second = .held ∨ s.nsc.speed.status = .held ∨ s.nsc.speed.status = .single ∨
         s.pvu.viewStatus = .held ∨ s.pvu.viewStatus = .ramping
       let newFailed := failed ∧ s.nsc.present.has .sensorFailed = false
       let newHeld := held ∧ s.nsc.present.has .inputHeld = false
       let wakes := (∃ c ∈ s.candidates, ∃ v, c.value = some v ∧ c.fresh.heard = true ∧ s.prm.vStand < v) ∨
         (s.role = .steer ∧ ∃ tau, s.mu.records.torque.lastGood = some tau ∧ s.prm.wake < tau.natAbs) ∨
         (s.role ≠ .steer ∧ ∃ x y, s.mu.records.shaft.lastGood = some x ∧ s.nsc.entryLean = some y ∧ 100 < (x - y).natAbs)
       (t.nsc.present.has .sensorFailed = true ↔ failed) ∧ (t.nsc.present.has .inputHeld = true ↔ held) ∧
       (∀ d, d ≠ .sensorFailed → d ≠ .inputHeld → t.nsc.present.has d = s.nsc.present.has d) ∧
       (newFailed → t.nsc.latches.has .sensorFailed = true) ∧ (¬newFailed → t.nsc.latches = s.nsc.latches) ∧
       (∀ d, d ≠ .sensorFailed → t.nsc.latches.has d = s.nsc.latches.has d) ∧
       (newFailed → s.nsc.node = .active ∨ s.nsc.node = .degraded ∨ s.nsc.node = .dormant →
         t.nsc.node = (if s.role = .steer ∨ s.prm.vFree ≤ s.nsc.speed.value then .free else .clamped) ∧
         t.nsc.clearRun = s.nsc.clearRun) ∧
       (¬newFailed → newHeld → s.nsc.node = .active ∨ s.nsc.node = .degraded ∨ s.nsc.node = .dormant →
         t.nsc.node = .degraded ∧ t.nsc.clearRun = 0) ∧
       (¬newFailed → ¬newHeld → s.nsc.node = .dormant → wakes →
         t.nsc.node = .active ∧ t.nsc.clearRun = 0 ∧ t.nsc.joinCount = 0) ∧
       (s.nsc.node ≠ .dormant → t.nsc.joinCount = s.nsc.joinCount) ∧
       (t.nsc.node ≠ .active → t.nsc.joinCount = s.nsc.joinCount) ∧
       (¬newFailed → ¬newHeld → s.nsc.node ≠ .dormant ∨ ¬wakes → t.nsc.node = s.nsc.node ∧
         t.nsc.clearRun = s.nsc.clearRun) ∧
       (s.nsc.node = .listen ∨ s.nsc.node = .free ∨ s.nsc.node = .clamped → t.nsc.node = s.nsc.node ∧
         t.nsc.clearRun = s.nsc.clearRun)) ∧
      t.handed = s.handed.erase (.sweepNoticeNsc n) ++
        (if t.nsc.node = s.nsc.node then [] else s.nodeNotices s.nsc.node t.nsc.node) ∧
      (t.nsc.node ≠ s.nsc.node → t.nsc.flt = t.nsc.node.faulted) ∧ (t.nsc.node = s.nsc.node → t.nsc.flt = s.nsc.flt) ∧
      t.nsc.dormantDwell = (if t.nsc.node = s.nsc.node ∨ t.nsc.node = .active then s.nsc.dormantDwell else none) ∧
      rejoinRuns s t ∧
      t = { s with nsc := { t.nsc with topCopy := s.nsc.topCopy, lastHalt := s.nsc.lastHalt, entryLean := s.nsc.entryLean,
                                       sendCount := s.nsc.sendCount, speed := s.nsc.speed }, handed := t.handed }) ∧
  (∀ (s : State) (v : Nat) (st : SpeedStatus), s.nsc.node.live = true →
    ∃ t, exec (.speedStatusChangeNsc v st) s = .next t ∧ t.nsc.speed = ⟨v, st⟩ ∧
      (let held := s.channel1.state = .held ∨ s.channel2.state = .held ∨ st = .held ∨ st = .single ∨
         s.pvu.viewStatus = .held ∨ s.pvu.viewStatus = .ramping
       let newLost := st = .lost ∧ s.nsc.present.has .speedLost = false
       let newHeld := held ∧ s.nsc.present.has .inputHeld = false
       (t.nsc.present.has .speedLost = true ↔ st = .lost) ∧ (t.nsc.present.has .inputHeld = true ↔ held) ∧
       (∀ d, d ≠ .speedLost → d ≠ .inputHeld → t.nsc.present.has d = s.nsc.present.has d) ∧
       t.nsc.latches = s.nsc.latches ∧
       (newLost → s.nsc.node = .active ∨ s.nsc.node = .degraded ∨ s.nsc.node = .dormant →
         t.nsc.node = (if s.role = .steer ∨ s.prm.vFree ≤ v then .free else .clamped) ∧
         t.nsc.clearRun = s.nsc.clearRun) ∧
       (¬newLost → newHeld → s.nsc.node = .active ∨ s.nsc.node = .degraded ∨ s.nsc.node = .dormant →
         t.nsc.node = .degraded ∧ t.nsc.clearRun = 0) ∧
       (¬newLost → ¬newHeld → s.nsc.node = .active ∨ s.nsc.node = .degraded ∨ s.nsc.node = .dormant →
         t.nsc.node = s.nsc.node ∧ t.nsc.clearRun = s.nsc.clearRun) ∧
       (s.nsc.node = .clamped → t.nsc.node = if s.prm.vFree ≤ v then .free else .clamped) ∧
       (s.nsc.node = .listen ∨ s.nsc.node = .free → t.nsc.node = s.nsc.node) ∧
       (s.nsc.node = .listen ∨ s.nsc.node = .free ∨ s.nsc.node = .clamped → t.nsc.clearRun = s.nsc.clearRun)) ∧
      dormantRuns s t v st ∧
      t.handed = s.handed.erase (.speedStatusChangeNsc v st) ++
        (if t.nsc.node = s.nsc.node then [] else s.nodeNotices s.nsc.node t.nsc.node) ∧
      (t.nsc.node ≠ s.nsc.node → t.nsc.flt = t.nsc.node.faulted) ∧ (t.nsc.node = s.nsc.node → t.nsc.flt = s.nsc.flt) ∧
      rejoinRuns s t ∧
      t = { s with nsc := { t.nsc with topCopy := s.nsc.topCopy, lastHalt := s.nsc.lastHalt, entryLean := s.nsc.entryLean,
                                       sendCount := s.nsc.sendCount, joinCount := s.nsc.joinCount }, handed := t.handed }) ∧
  (∀ (s : State) (st : ViewStatus), s.nsc.node.live = true →
    ∃ t, exec (.viewChange st) s = .next t ∧
      (let held := s.channel1.state = .held ∨ s.channel2.state = .held ∨ s.nsc.speed.status = .held ∨
         s.nsc.speed.status = .single ∨ st = .held ∨ st = .ramping
       let newHeld := held ∧ s.nsc.present.has .inputHeld = false
       (t.nsc.present.has .inputHeld = true ↔ held) ∧ (∀ d, d ≠ .inputHeld → t.nsc.present.has d = s.nsc.present.has d) ∧
       t.nsc.latches = s.nsc.latches ∧
       (newHeld → s.nsc.node = .active ∨ s.nsc.node = .degraded ∨ s.nsc.node = .dormant →
         t.nsc.node = .degraded ∧ t.nsc.clearRun = 0) ∧
       (¬newHeld ∨ s.nsc.node = .listen ∨ s.nsc.node = .free ∨ s.nsc.node = .clamped →
         t.nsc.node = s.nsc.node ∧ t.nsc.clearRun = s.nsc.clearRun)) ∧
      t.handed = s.handed.erase (.viewChange st) ++
        (if t.nsc.node = s.nsc.node then [] else s.nodeNotices s.nsc.node t.nsc.node) ∧
      (t.nsc.node ≠ s.nsc.node → t.nsc.flt = t.nsc.node.faulted) ∧ (t.nsc.node = s.nsc.node → t.nsc.flt = s.nsc.flt) ∧
      t.nsc.dormantDwell = (if t.nsc.node = s.nsc.node ∨ t.nsc.node = .active then s.nsc.dormantDwell else none) ∧
      rejoinRuns s t ∧
      t = { s with nsc := { s.nsc with node := t.nsc.node, flt := t.nsc.flt, present := t.nsc.present,
                                       clearRun := t.nsc.clearRun, dormantDwell := t.nsc.dormantDwell,
                                       rejoin := t.nsc.rejoin }, handed := t.handed }) ∧
  (∀ (s : State) (low : Bool), s.nsc.node.live = true → s.role.isTilt = true →
    ∃ t, exec (.bfltChange low) s = .next t ∧ t.pins = { s.pins with bfltLow := low } ∧
      (let newFault := low = true ∧ s.nsc.present.has .bridgeFault = false
       t.nsc.present.has .bridgeFault = low ∧ (∀ d, d ≠ .bridgeFault → t.nsc.present.has d = s.nsc.present.has d) ∧
       (newFault → t.nsc.latches.has .bridgeFault = true) ∧ (¬newFault → t.nsc.latches = s.nsc.latches) ∧
       (∀ d, d ≠ .bridgeFault → t.nsc.latches.has d = s.nsc.latches.has d) ∧
       (newFault → s.nsc.node = .active ∨ s.nsc.node = .degraded ∨ s.nsc.node = .dormant →
         t.nsc.node = if s.prm.vFree ≤ s.nsc.speed.value then .free else .clamped) ∧
       (¬newFault ∨ s.nsc.node = .listen ∨ s.nsc.node = .free ∨ s.nsc.node = .clamped → t.nsc.node = s.nsc.node)) ∧
      t.handed = s.handed ++ (if t.nsc.node = s.nsc.node then [] else s.nodeNotices s.nsc.node t.nsc.node) ∧
      (t.nsc.node ≠ s.nsc.node → t.nsc.flt = true) ∧ (t.nsc.node = s.nsc.node → t.nsc.flt = s.nsc.flt) ∧
      t.nsc.dormantDwell = (if t.nsc.node = s.nsc.node ∨ t.nsc.node = .active then s.nsc.dormantDwell else none) ∧
      rejoinRuns s t ∧
      t = { s with pins := t.pins, handed := t.handed,
                   nsc := { s.nsc with node := t.nsc.node, flt := t.nsc.flt, present := t.nsc.present,
                                       latches := t.nsc.latches, dormantDwell := t.nsc.dormantDwell,
                                       rejoin := t.nsc.rejoin } }) ∧
  (∀ s : State, s.nsc.node.live = false →
    (∀ n, exec (.sweepNoticeNsc n) s = .next { s with handed := s.handed.erase (.sweepNoticeNsc n) }) ∧
    (∀ v st, exec (.speedStatusChangeNsc v st) s = .next { s with handed := s.handed.erase (.speedStatusChangeNsc v st) }) ∧
    (∀ st, exec (.viewChange st) s = .next { s with handed := s.handed.erase (.viewChange st) })) ∧
  (∀ (s : State) (low : Bool), s.nsc.node.live = false ∨ s.role.isTilt = false →
    exec (.bfltChange low) s = .next { s with pins := { s.pins with bfltLow := low } })

/-- PERIOD_NOTICE. In LISTEN the join test of R144 counts to ACTIVE at 25 and a failed one sets the count to 0; in DEGRADED ten
notices in a row without a degrading condition return the node to ACTIVE; in ACTIVE a degrading condition takes it to
DEGRADED, and without one the node stays in ACTIVE. A change of the node state is handed on, and the dormant dwell is evaluated
in a node that stays in ACTIVE (log entry 12). That the join test and the dwell read the consensus speed as it stands is the
model's reading (log entry 10), and that the clear run is 0 after the entry from LISTEN its choice (log entry 36). -/
def Obligations.PeriodNoticeJoinsAndClears : Prop :=
  ∀ s : State, s.nsc.node.live = true →
    ∃ t, exec .periodNotice s = .next t ∧
      (s.nsc.node = .listen → s.joinTest = true →
        (s.nsc.joinCount < 24 → t.nsc.node = .listen ∧ t.nsc.joinCount = s.nsc.joinCount + 1) ∧
        (24 ≤ s.nsc.joinCount → t.nsc.node = .active ∧ t.nsc.joinCount = 0 ∧ t.nsc.clearRun = 0)) ∧
      (s.nsc.node = .listen → s.joinTest = false → t.nsc.node = .listen ∧ t.nsc.joinCount = 0) ∧
      (s.joinTest = true ↔ s.channel1.state = .good ∧ s.channel2.state = .good ∧ s.pvu.speedStatus.heard = true ∧
        s.pvu.viewStatus = .live ∧ (∀ c, isSerious c = true → s.nsc.present.has c = false) ∧
        s.nsc.latches.has .overlean = false ∧ s.nsc.latches.has .haltTaken = false ∧
        s.nsc.latches.has .voteOutlier = false ∧
        (s.role.isTilt = true → (s.bcu.switch = .engaged ∧ s.pvu.speed < s.prm.vStand) ∨
          (s.bcu.switch = .released ∧ ∃ c, s.partnerContrib = some (c, .fresh) ∧ c.running = true))) ∧
      (s.nsc.node = .degraded → (∃ c, isDegrading c = true ∧ s.nsc.present.has c = true) →
        t.nsc.node = .degraded ∧ t.nsc.clearRun = 0) ∧
      (s.nsc.node = .degraded → (∀ c, isDegrading c = true → s.nsc.present.has c = false) →
        (s.nsc.clearRun < 9 → t.nsc.node = .degraded ∧ t.nsc.clearRun = s.nsc.clearRun + 1) ∧
        (9 ≤ s.nsc.clearRun → t.nsc.node = .active ∧ t.nsc.clearRun = 0)) ∧
      (s.nsc.node = .active → (∃ c, isDegrading c = true ∧ s.nsc.present.has c = true) →
        t.nsc.node = .degraded ∧ t.nsc.clearRun = 0) ∧
      (s.nsc.node = .active → (∀ c, isDegrading c = true → s.nsc.present.has c = false) →
        t.nsc.node = .active ∧ t.nsc.clearRun = s.nsc.clearRun) ∧
      (s.nsc.node = .listen → t.nsc.node = .listen → t.nsc.clearRun = s.nsc.clearRun) ∧
      (s.nsc.node ≠ .listen → t.nsc.node = s.nsc.node → t.nsc.joinCount = s.nsc.joinCount) ∧
      dormantRuns s t s.pvu.speed s.pvu.speedStatus ∧
      t.nsc.flt = (if t.nsc.node = s.nsc.node then s.nsc.flt else false) ∧
      t.handed = s.handed.erase .periodNotice ++
        (if t.nsc.node = s.nsc.node then [] else s.nodeNotices s.nsc.node t.nsc.node) ∧
      (s.nsc.node = .free ∨ s.nsc.node = .clamped ∨ s.nsc.node = .dormant → t.nsc = s.nsc) ∧
      t.nsc.present = s.nsc.present ∧ t.nsc.latches = s.nsc.latches ∧
      t.nsc.rejoin = (if t.nsc.node = s.nsc.node then s.nsc.rejoin else none) ∧
      t = { s with nsc := { t.nsc with lastHalt := s.nsc.lastHalt, sendCount := s.nsc.sendCount,
                                       entryLean := s.nsc.entryLean, topCopy := s.nsc.topCopy, speed := s.nsc.speed },
                   handed := t.handed }

/-- Dormancy and rejoining. TOP_CHANGE_NOTICE_NSC: the top copy takes the new top's kind; a DORMANT node wakes when it
is not a PARK; its wake is handed on, and in ACTIVE the dormant dwell runs exactly under the five conditions of R150. REJOIN_TIMER_EXPIRY at 1 s takes
FREE or CLAMPED to LISTEN. DORMANT_DWELL_EXPIRY at T_dormant takes ACTIVE to DORMANT where the conditions still hold, the
entry lean stored and the send count at 49, and else only stops the timer. That the dwell is evaluated in ACTIVE only is the
model's reading (log entry 12), as is that it reads the consensus speed as it stands (log entry 10); that a timer before its limit has
no expiry is its choice (log entry 7), and so is that the clear run is kept but for a wake to ACTIVE, which sets it to 0 (log entry
36). -/
def Obligations.DormancyAndRejoining : Prop :=
  (∀ (s : State) (top : Option TopView), s.nsc.node.live = true →
    ∃ t, exec (.topChangeNoticeNsc top) s = .next t ∧ t.nsc.topCopy = top.map (fun q => q.kind) ∧
      (s.nsc.node = .dormant → t.nsc.node = if top.map (fun q => q.kind) = some .park then .dormant else .active) ∧
      (s.nsc.node ≠ .dormant → t.nsc.node = s.nsc.node) ∧
      dormantRuns s t s.pvu.speed s.pvu.speedStatus ∧
      t.handed = s.handed.erase (.topChangeNoticeNsc top) ++
        (if t.nsc.node = s.nsc.node then [] else s.nodeNotices .dormant .active) ∧
      t.nsc.flt = (if t.nsc.node = s.nsc.node then s.nsc.flt else false) ∧
      t.nsc.rejoin = (if t.nsc.node = s.nsc.node then s.nsc.rejoin else none) ∧
      t.nsc.joinCount = (if t.nsc.node = s.nsc.node then s.nsc.joinCount else 0) ∧
      t.nsc.clearRun = (if t.nsc.node = s.nsc.node then s.nsc.clearRun else 0) ∧
      t = { s with nsc := { s.nsc with topCopy := t.nsc.topCopy, node := t.nsc.node, flt := t.nsc.flt,
                                       joinCount := t.nsc.joinCount, clearRun := t.nsc.clearRun,
                                       rejoin := t.nsc.rejoin, dormantDwell := t.nsc.dormantDwell },
                   handed := t.handed }) ∧
  (∀ (s : State) (n : Nat), s.nsc.rejoin = some n →
    (1000000 ≤ n → s.nsc.node = .free ∨ s.nsc.node = .clamped → exec .rejoinTimerExpiry s = .next { s with
      nsc := { s.nsc with node := .listen, flt := false, joinCount := 0, rejoin := none, dormantDwell := none }
      handed := s.handed ++ s.nodeNotices s.nsc.node .listen }) ∧
    (n < 1000000 → exec .rejoinTimerExpiry s = .next s)) ∧
  (∀ (s : State) (n : Nat), s.nsc.dormantDwell = some n → s.nsc.node = .active →
    (let holds := s.nsc.topCopy = some .park ∧ s.pvu.speedStatus.heard = true ∧ s.pvu.speed = 0 ∧ s.nsc.present = 0 ∧
       (s.role ≠ .steer → s.bcu.state = .engaged) ∧
       (s.role = .steer → ∀ r, r = .tiltA ∨ r = .tiltB → s.addrOf r ≠ none →
         ∃ c f, s.contribOf r = some (c, f) ∧ f.heard = true ∧ c.nodeState = 6)
     (s.prm.tDormant * 1000 ≤ n → holds → exec .dormantDwellExpiry s = .next { s with
       nsc := { s.nsc with node := .dormant, flt := false, dormantDwell := none, rejoin := none, sendCount := 49,
                           entryLean := s.measured }
       handed := s.handed ++ s.nodeNotices .active .dormant }) ∧
     (s.prm.tDormant * 1000 ≤ n → ¬holds →
       exec .dormantDwellExpiry s = .next { s with nsc := { s.nsc with dormantDwell := none } }) ∧
     (n < s.prm.tDormant * 1000 → exec .dormantDwellExpiry s = .next s)))

/-! ## The bus interface -/

/-- The receiver at a character that is no OPEN and no SHUT, and at the line conditions: DATA_CHARACTER expands a byte or a RUN
in IN_FRAME, with HUNT at the 36th byte and SKIP at a DEST that is neither the own address nor 15; RUN_MARK records its
count; UNNAMED_MARK, FRAMING_ERROR and BREAK take every receiver that is on to HUNT, FRAME_TIMEOUT a receiver inside a
frame. The level last read on SBS is that of the event's last bit, 0 for a framing error and a break and 1 otherwise (log
entry 18). -/
def Obligations.ReceiverFollowsTheTable : Prop :=
  (∀ (s : State) (b : Byte), ∃ t, exec (.dataCharacter b) s = .next t ∧
    t = { s with bi := { s.bi with rx := t.bi.rx, sbs := if s.bi.rx = .off then s.bi.sbs else true } } ∧
    (s.bi.rx = .waitOpen → t.bi.rx = .hunt) ∧ (s.bi.rx = .skip ∨ s.bi.rx = .hunt ∨ s.bi.rx = .off → t.bi.rx = s.bi.rx) ∧
    (∀ a, s.bi.rx = .inFrame a →
      let n := a.run.getD 1
      let stranger := a.kind.hasDest = true ∧ a.bytes = [] ∧ b.toNat ≠ s.cl.ownAddr.toNat ∧ b.toNat ≠ 15
      (1 ≤ n → stranger → t.bi.rx = .skip) ∧
      (¬stranger → 35 < a.bytes.length + n → a.bytes.length ≤ 35 → t.bi.rx = .hunt) ∧
      (¬stranger → a.bytes.length + n ≤ 35 → t.bi.rx = .inFrame { a with
        bytes := a.bytes ++ List.replicate n b, crc := (List.replicate n b).foldl crcByte a.crc, run := none }))) ∧
  (∀ (s : State) (n : BitVec 4), ∃ t, exec (.runMark n) s = .next t ∧
    t = { s with bi := { s.bi with rx := t.bi.rx, sbs := if s.bi.rx = .off then s.bi.sbs else true } } ∧
    (s.bi.rx = .waitOpen → t.bi.rx = .hunt) ∧ (s.bi.rx = .skip ∨ s.bi.rx = .hunt ∨ s.bi.rx = .off → t.bi.rx = s.bi.rx) ∧
    (∀ a, s.bi.rx = .inFrame a → a.run = none → t.bi.rx = .inFrame { a with run := some (n.toNat + 2) }) ∧
    (∀ a k, s.bi.rx = .inFrame a → a.run = some k → t.bi.rx = .hunt)) ∧
  (∀ (s : State) (c : Instr), (∃ b, c = .unnamedMark b) ∨ c = .framingError ∨ c = .lineBreak →
    (s.bi.rx = .off → exec c s = .next s) ∧
    (s.bi.rx ≠ .off → exec c s = .next { s with
      bi := { s.bi with rx := .hunt, sbs := decide (c ≠ .framingError ∧ c ≠ .lineBreak) } })) ∧
  (∀ s : State, ∃ t, exec .frameTimeout s = .next t ∧
    t = { s with bi := { s.bi with rx := t.bi.rx, sbs := if s.bi.rx = .off then s.bi.sbs else true } } ∧
    (s.bi.rx = .skip ∨ (∃ a, s.bi.rx = .inFrame a) → t.bi.rx = .hunt) ∧
    (s.bi.rx = .hunt ∨ s.bi.rx = .waitOpen ∨ s.bi.rx = .off → t.bi.rx = s.bi.rx))

/-- OPEN_MARK in WAIT_OPEN: the own frame just sent is followed in SKIP, any other frame from the own address is a link conflict
followed in SKIP, and another source's frame is taken when its roster role may send the kind, with the register at 0xFFFF and
the OPEN byte entered, and followed in SKIP when not; inside a frame it returns the receiver to HUNT. SBS was last read
recessive, at the mark's stop bit (log entry 18). -/
def Obligations.OpenDecidesAcceptance : Prop :=
  ∀ (s : State) (b : Byte),
    ∃ t, exec (.openMark b) s = .next t ∧
      (let src := b.extractLsb' 0 4
       let kind := (b.extractLsb' 4 4).toNat
       let role := s.roleOf src.toNat
       let mine := ∃ f, s.bi.tx = .sending ∧ s.bi.inFlight = some f ∧ openByte f.kind s.cl.ownAddr = b
       let taken := ∃ k, kindOfNat kind = some k ∧
         ((k = .halt ∧ role ≠ .absent) ∨ ((k = .override ∨ k = .release) ∧ (role = .console ∨ role = .service)) ∨
          (k = .rider ∧ role = .steer) ∨ (k = .contrib ∧ (role = .tiltA ∨ role = .tiltB ∨ role = .steer)) ∨
          (k = .speed ∧ role = .drive) ∨ ((k = .query ∨ k = .clear) ∧ role = .service))
       (s.bi.rx = .waitOpen →
         (mine → t = { s with bi := { s.bi with rx := .skip, sbs := true } }) ∧
         (¬mine → src = s.cl.ownAddr → t = { s with
           bi := { s.bi with rx := .skip, sbs := true }, handed := s.handed ++ [.conditionReport .linkConflict true] }) ∧
         (¬mine → src ≠ s.cl.ownAddr → taken → ∃ k, kindOfNat kind = some k ∧ t = { s with
           bi := { s.bi with rx := .inFrame ⟨src, k, [], crcByte 0xFFFF b, none⟩, sbs := true } }) ∧
         (¬mine → src ≠ s.cl.ownAddr → ¬taken → t = { s with bi := { s.bi with rx := .skip, sbs := true } })) ∧
       (s.bi.rx = .skip ∨ (∃ a, s.bi.rx = .inFrame a) → t = { s with bi := { s.bi with rx := .hunt, sbs := true } }) ∧
       (s.bi.rx = .hunt → t = { s with bi := { s.bi with sbs := true } }) ∧ (s.bi.rx = .off → t = s))

/-- SHUT_MARK in IN_FRAME: with no RUN pending, the shortest count reached and the register at 0, the frame record is offered to
the receive queue, and otherwise the frame is abandoned; the receiver goes to HUNT, an overrun is reported, and an IDLE peer view
takes the head. In
WAIT_OPEN and in SKIP, as in HUNT, nothing is offered and the receiver is in HUNT after it. SBS was last read recessive, at the
mark's stop bit (log entry 18). -/
def Obligations.ShutOffersAGoodFrame : Prop :=
  (∀ (s : State) (a : Assembler), s.bi.rx = .inFrame a →
    ∃ t, exec .shutMark s = .next t ∧ t.bi.rx = .hunt ∧
      (let dest := a.kind = .query ∨ a.kind = .clear
       let good := a.run = none ∧ (if dest then 3 else 2) ≤ a.bytes.length ∧ a.crc = 0
       let f : RxFrame := ⟨a.src, a.kind, if dest then a.bytes.head? else none,
         (a.bytes.take (a.bytes.length - 2)).drop (if dest then 1 else 0), s.clock⟩
       (¬good → t = { s with bi := { s.bi with rx := .hunt, sbs := true } }) ∧
       (good → (offerFrame s.bi.rfq f).2 = false → s.pvu.processing ≠ none →
         t = { s with bi := { s.bi with rx := .hunt, sbs := true, rfq := (offerFrame s.bi.rfq f).1 } }) ∧
       (good → (offerFrame s.bi.rfq f).2 = true → s.pvu.processing ≠ none →
         t = { s with bi := { s.bi with rx := .hunt, sbs := true, rfq := (offerFrame s.bi.rfq f).1 }
                      handed := s.handed ++ [.conditionReport .queueOverrun true] }) ∧
       (good → s.pvu.processing = none →
         t = { s with bi := { s.bi with rx := .hunt, sbs := true, rfq := (offerFrame s.bi.rfq f).1.tail }
                      pvu := { s.pvu with processing := (offerFrame s.bi.rfq f).1.head?.map (fun g => (g, 0)) }
                      handed := s.handed ++
                        if (offerFrame s.bi.rfq f).2 = true then [.conditionReport .queueOverrun true] else [] }) ∧
       (good → s.pvu.processing = none → s.bi.rfq = [] →
         t = { s with bi := { s.bi with rx := .hunt, sbs := true }, pvu := { s.pvu with processing := some (f, 0) } }))) ∧
  (∀ s : State, s.bi.rx = .waitOpen ∨ s.bi.rx = .skip ∨ s.bi.rx = .hunt →
    exec .shutMark s = .next { s with bi := { s.bi with rx := .hunt, sbs := true } }) ∧
  (∀ s : State, s.bi.rx = .off → exec .shutMark s = .next s)

/-- The five cases of an offer to the receive queue, the first that applies settling it, with the overrun reported in the last
three. -/
def Obligations.QueueSettlesAnOffer : Prop :=
  ∀ (q : List RxFrame) (f : RxFrame),
    (let rival := f.kind.periodic = true ∧ ∃ g ∈ q, g.src = f.src ∧ g.kind = f.kind
     (rival → offerFrame q f = (q.map (fun g => if g.src = f.src ∧ g.kind = f.kind then f else g), false)) ∧
     (¬rival → q.length < 8 → offerFrame q f = (q ++ [f], false)) ∧
     (¬rival → 8 ≤ q.length → f.kind.periodic = true → offerFrame q f = (q, true)) ∧
     (∀ before g after, ¬rival → 8 ≤ q.length → f.kind.periodic = false → q = before ++ g :: after →
       g.kind.periodic = true → (∀ x ∈ after, x.kind.periodic = false) → offerFrame q f = (before ++ after ++ [f], true)) ∧
     (¬rival → 8 ≤ q.length → f.kind.periodic = false → (∀ x ∈ q, x.kind.periodic = false) →
       offerFrame q f = (q, true)))

/-- IDLE takes the receiver from HUNT to WAIT_OPEN, and starts a waiting transmitter: the frame of the lowest kind leaves its
slot as the frame in flight, HALT before RIDER before CONTRIB before REPORT, none of its bits begun, and the other slots stay.
The line was last read recessive (log entry 18). -/
def Obligations.IdleOpensAndStarts : Prop :=
  ∀ s : State, ∃ t, exec .idle s = .next t ∧ t.bi.rx = (if s.bi.rx = .hunt then .waitOpen else s.bi.rx) ∧
    t.bi.sbs = (if s.bi.rx = .off then s.bi.sbs else true) ∧
    (s.bi.tx ≠ .waitGap → t.bi = { s.bi with rx := t.bi.rx, sbs := t.bi.sbs }) ∧
    (s.bi.tx = .waitGap →
      (let start (k : FrameKind) (f : Slot) (rest : Slots) : Prop := t.bi = { s.bi with
         rx := t.bi.rx, sbs := t.bi.sbs, tx := .sending, slots := rest
         inFlight := some ⟨k, f.payload, f.aborts, frameChars (openByte k s.cl.ownAddr) f.payload, 0⟩ }
       let x := s.bi.slots
       (∀ f, x.halt = some f → start .halt f { x with halt := none }) ∧
       (∀ f, x.halt = none → x.rider = some f → start .rider f { x with rider := none }) ∧
       (∀ f, x.halt = none → x.rider = none → x.contrib = some f → start .contrib f { x with contrib := none }) ∧
       (∀ f, x.halt = none → x.rider = none → x.contrib = none → x.report = some f →
         start .report f { x with report := none }))) ∧
    t = { s with bi := t.bi }

/-- The ends of a transmission. FRAME_SENT completes the frame, or makes a pending restart take effect when it was its
REPORT; ARBITRATION_LOSS returns the frame to its slot with its count; READBACK_MISMATCH begins the break and returns
the frame with its count raised, or at the third abort discards it and reports a link conflict, a slot filled
meanwhile keeping its newer frame; ABORT_BREAK_END, with the break driven for 33 µs, releases the line for WAIT_GAP or IDLE.
That the restart takes effect inside the command that ends its REPORT, and that a slot filled meanwhile keeps its frame at the
third abort, are the model's readings (log entries 14 and 15); that a break not yet driven for 33 µs has no end is its choice
(log entry 7). SBS was last read as sent, or, at a loss and a mismatch, as the other level (log entry 18). That these events change
nothing in any other state of the transmitter is the model's choice (log entry 8), and the reset values that the manual does not
give are too (log entry 6). -/
def Obligations.TransmissionEnds : Prop :=
  (∀ (s : State) (f : InFlight), s.bi.tx = .sending → s.bi.inFlight = some f → FrameKind.hasSlot f.kind = true →
    (let waits := s.sr.restartPending = true ∧ f.kind = .report ∧ s.bi.slots.report = none
     let next : TxState := if s.bi.slots.lowest.isSome then .waitGap else .idle
     let mine := s.bi.slots.get f.kind
     (¬waits → exec .frameSent s = .next { s with bi := { s.bi with sbs := true, inFlight := none, tx := next } }) ∧
     (waits → ∃ t, exec .frameSent s = .next t ∧ t.nsc.node = .start ∧
       t.nsc.latches = s.nsc.latches ∧ t.nsc.lastHalt = s.nsc.lastHalt ∧ t.cl.phase = .reading ∧
       t.sr.restartPending = false ∧ t.bi = Bi.reset ∧ t.le = Le.reset ∧ t.pending = s.pending) ∧
     (∃ t, exec .arbitrationLoss s = .next t ∧ t = { s with bi := t.bi } ∧
       t.bi = { s.bi with sbs := !s.bi.sbd, inFlight := none, tx := .waitGap, slots := t.bi.slots } ∧
       t.bi.slots.get f.kind = (if mine.isSome then mine else some ⟨f.payload, f.aborts⟩) ∧
       ∀ k, k ≠ f.kind → t.bi.slots.get k = s.bi.slots.get k) ∧
     (f.aborts < 2 ∨ mine.isSome = true → ∃ t, exec .readbackMismatch s = .next t ∧
       t = { s with bi := t.bi } ∧
       t.bi = { s.bi with sbs := !s.bi.sbd, inFlight := none, tx := .aborting, abortTime := some 0,
                          slots := t.bi.slots } ∧
       t.bi.slots.get f.kind = (if mine.isSome then mine else some ⟨f.payload, f.aborts + 1⟩) ∧
       ∀ k, k ≠ f.kind → t.bi.slots.get k = s.bi.slots.get k) ∧
     (2 ≤ f.aborts → mine = none → ¬waits → exec .readbackMismatch s = .next { s with
       bi := { s.bi with sbs := !s.bi.sbd, inFlight := none, tx := .aborting, abortTime := some 0 }
       handed := s.handed ++ [.conditionReport .linkConflict true] }) ∧
     (2 ≤ f.aborts → waits → ∃ t, exec .readbackMismatch s = .next t ∧ t.nsc.node = .start ∧
       t.nsc.latches.has .linkConflict = true ∧ t.nsc.lastHalt = s.nsc.lastHalt))) ∧
  (∀ (s : State) (n : Nat), s.bi.tx = .aborting → s.bi.abortTime = some n →
    (33 ≤ n → exec .abortBreakEnd s = .next { s with
      bi := { s.bi with tx := if s.bi.slots.lowest.isSome then .waitGap else .idle, abortTime := none } }) ∧
    (n < 33 → exec .abortBreakEnd s = .next s)) ∧
  (∀ s : State, s.bi.tx ≠ .sending → exec .frameSent s = .next s ∧ exec .arbitrationLoss s = .next s ∧
    exec .readbackMismatch s = .next s) ∧
  (∀ s : State, s.bi.tx ≠ .aborting → exec .abortBreakEnd s = .next s)

/-! ## The service responder -/

/-- A QUERY taken from LISTEN to DORMANT with no restart pending fills the REPORT slot: item byte, index, result, and for DONE
the item's data, field by field as the table of 10.3 lays them out and R43, R80, R115, R137 and R154 give them; BAD_ITEM with
no data for a page beyond the last, item 2 from index 15, item 5 above index 11, item 6 in the STEER role and an unknown item.
Nothing else changes but the free-value number, the model's own; a byte that no rule gives is free (log entry 4), as is a
signed field whose quantity does not fit (log entry 5). While a restart is pending it is discarded without a reply. -/
def Obligations.QueryIsAnswered : Prop :=
  ∀ (s : State) (item index page : Byte) (h : ServiceHead) (c : Instr), c = queryCommand item index page h →
    s.nsc.node.live = true → s.bi.tx ≠ .off →
    (s.sr.restartPending = true → exec c s = .next { s with handed := s.handed.erase c }) ∧
    (s.sr.restartPending = false → ∃ t payload, exec c s = .next t ∧
      t = { s with bi := { s.bi with slots := { s.bi.slots with report := some ⟨payload, 0⟩ },
                                     tx := if s.bi.tx = .idle then .waitGap else s.bi.tx },
                   handed := s.handed.erase c, free := t.free } ∧
      (page.toNat * 16 + item.toNat ≤ 255 → payload[0]? = some (BitVec.ofNat 8 (page.toNat * 16 + item.toNat))) ∧
      payload[1]? = some index ∧
      (let i := item.toNat
       let bad := i = 0 ∨ 8 < i ∨ (if i = 2 ∨ i = 3 ∨ i = 4 then 1 < page.toNat else page ≠ 0) ∨
         (i = 2 ∧ 15 ≤ index.toNat) ∨ (i = 5 ∧ 11 < index.toNat) ∨ (i = 6 ∧ s.role = .steer)
       let one (k n : Nat) : Prop := byteAt payload k = BitVec.ofNat 8 n
       let two (k n : Nat) : Prop := halfAt payload k = BitVec.ofNat 16 n
       let signed (k : Nat) (x : Int) : Prop := -32768 ≤ x → x ≤ 32767 → (halfAt payload k).toInt = x
       let ms (us : Nat) : Nat := min (us / 1000) 65535
       let ran (T : Timer) : Nat := ms (T.getD 0)
       let old (st : Stamp) : Nat := ms (s.clock - st).toNat
       (bad → payload.length = 3 ∧ payload[2]? = some 3) ∧
       (¬bad → payload[2]? = some 0 ∧
         (i = 1 → payload = [1, index, 0] ++ s.item1 ∧ payload.length = 19 ∧
           one 3 (nodeCode s.nsc.node) ∧ halfAt payload 4 = s.nsc.present ∧ one 6 s.nsc.present.primary ∧
           halfAt payload 7 = s.nsc.latches ∧ one 9 s.nsc.joinCount ∧ one 10 s.nsc.clearRun ∧ one 11 s.nsc.sendCount ∧
           two 12 (ran s.nsc.rejoin) ∧ two 14 (ran s.nsc.dormantDwell) ∧
           (s.nsc.lastHalt = none → one 16 15 ∧ one 17 0 ∧ one 18 0) ∧
           (∀ q, s.nsc.lastHalt = some q → one 16 q.src.toNat ∧ byteAt payload 17 = q.reason ∧
             byteAt payload 18 = q.detail)) ∧
         (i = 2 → payload.length = if page = 0 then 20 else 24) ∧
         (i = 2 → page = 0 → one 3 (roleCode (s.roleOf index.toNat)) ∧ two 4 (s.sRow index.toNat / 1000) ∧
           one 6 (freshCode (s.freshOf index.toNat (s.row index.toNat).rider)) ∧
           one 15 (freshCode (s.freshOf index.toNat (s.row index.toNat).speed)) ∧
           (∀ x st, (s.row index.toNat).rider = some (x, st) → two 7 (old st) ∧ (payload.drop 9).take 6 = x.toBytes) ∧
           (∀ x st, (s.row index.toNat).speed = some (x, st) → two 16 (old st) ∧ two 18 x)) ∧
         (i = 2 → page = 1 → one 3 (freshCode (s.freshOf index.toNat (s.row index.toNat).contrib)) ∧
           (∀ x st, (s.row index.toNat).contrib = some (x, st) → two 4 (old st) ∧ payload.drop 6 = x.toBytes)) ∧
         (i = 3 → payload.length = 26 ∧ one 3 (refusalCode s.le.lastRefusal) ∧ one 4 s.le.mismatch ∧
           one 5 s.le.stack.length ∧ ∀ j, j < 2 →
           (s.le.stack[2 * page.toNat + j]? = none → (payload.drop (6 + 10 * j)).take 10 = List.replicate 10 0) ∧
           (∀ e, s.le.stack[2 * page.toNat + j]? = some e → byteAt payload (6 + 10 * j) = e.tag ∧
             one (7 + 10 * j) (overrideCode e.kind) ∧ signed (8 + 10 * j) (e.angle.getD 0) ∧
             (∀ n, e.count = .finite n → two (10 + 10 * j) n ∧ two (12 + 10 * j) 0) ∧
             (∀ n, e.count = .forever n → two (10 + 10 * j) 0 ∧ two (12 + 10 * j) n) ∧
             (∀ a, e.origin = some a → one (14 + 10 * j) a.toNat) ∧ (e.origin = none → one (14 + 10 * j) 15) ∧
             one (15 + 10 * j) e.pending.toNat)) ∧
         (i = 4 → payload.length = (if page = 0 then 28 else 13) ∧
           (let record (k : Nat) (q : Sample) : Prop := one k (recordCode q.state) ∧ signed (k + 1) (q.value.getD 0) ∧
              signed (k + 3) (q.lastGood.getD 0) ∧ two (k + 5) (old q.stamp) ∧ one (k + 7) q.missRun ∧
              one (k + 8) q.goodRun ∧ one (k + 9) (missCode q.lastMiss)
            (page = 0 → record 3 s.channel1 ∧ record 13 s.channel2 ∧ one 23 s.mu.edgeCount ∧
              (∀ v, s.mu.wheelSpeed = some v → two 24 v) ∧ (s.mu.wheelSpeed = none → two 24 65535) ∧
              signed 26 (if s.role = .steer then s.slu.tauS else s.tsu.tauO)) ∧
            (page = 1 → record 3 s.mu.records.temp))) ∧
         (i = 5 → ∀ im, s.cl.image = some im → payload = [5, index, 0] ++ (im.toList.drop (16 * index.toNat)).take 16) ∧
         (i = 6 → payload.length = 13 ∧ one 3 (brakeCode s.bcu.state) ∧ one 4 s.bcu.driver.toNat ∧
           one 5 (switchCode s.bcu.switch) ∧ one 6 s.bcu.demand.toNat ∧
           one 7 (match s.partnerFlag with | .off => 0 | .on => 1 | .unknown => 2) ∧
           (s.bcu.timer = none → one 8 0) ∧ (∀ n, s.bcu.timer = some (.brake, n) → one 8 1 ∧ two 9 (ms n)) ∧
           (∀ n, s.bcu.timer = some (.preload, n) → one 8 2 ∧ two 9 (ms n)) ∧ one 11 s.bcu.invalidRun ∧
           one 12 s.bcu.agreeRun) ∧
         (i = 7 → payload.length = 29 ∧ two 3 s.pvu.speed ∧ one 5 (speedCode s.pvu.speedStatus) ∧
           two 6 (ran s.pvu.speedHold) ∧ signed 24 s.pvu.view ∧ one 26 (viewCode s.pvu.viewStatus) ∧
           two 27 (ran s.pvu.viewHold) ∧
           (let u := s.pvu.used
            ∀ k q used, (s.candidates.zip [u.own, u.drive, u.peer1, u.peer2])[k]? = some (q, used) →
              one (8 + 4 * k) q.addr ∧ (byteAt payload (9 + 4 * k)).getLsbD 7 = q.value.isSome ∧
              (byteAt payload (9 + 4 * k)).getLsbD 6 = used ∧
              (q.addr ≠ 15 → (k = 0 → q.value.isSome = true) →
                ((byteAt payload (9 + 4 * k)).extractLsb' 0 2).toNat = freshCode q.fresh) ∧
              (∀ v, q.value = some v → two (10 + 4 * k) v))) ∧
         (i = 8 → payload.length = (if s.role = .steer then 17 else 24) ∧
           (s.role ≠ .steer →
             (let u := s.tsu
              signed 3 u.tauD ∧ one 5 u.wTh ∧ one 6 u.wJoin ∧ one 7 u.w ∧ one 8 u.wP ∧ signed 9 u.limit ∧
              signed 11 u.share ∧ two 13 u.factor ∧ signed 15 u.tauO ∧ (u.ramp = .idle → one 17 0 ∧ two 18 0) ∧
              (∀ st, u.ramp = .running st → one 17 1 ∧ two 18 (old st)) ∧ (u.ramp = .complete → one 17 2 ∧ two 18 0) ∧
              byteAt payload 20 = 0#4 ++ BitVec.ofBool u.partnerAbsent ++ BitVec.ofBool u.outlier ++
                BitVec.ofBool u.disagree ++ BitVec.ofBool u.saturated ∧
              one 21 u.disagreeRun ∧ one 22 u.agreeRun ∧ one 23 u.voteRun)) ∧
           (s.role = .steer →
             (let u := s.slu
              signed 3 u.gain ∧ signed 5 u.tauA ∧ one 7 u.runA ∧ (s.addrOf .tiltB = none → one 8 0) ∧
              (s.addrOf .tiltB ≠ none → one 8 u.runB) ∧ signed 9 (u.phiTilt.getD 0) ∧ signed 11 u.tauC ∧
              signed 13 u.tauS ∧
              byteAt payload 15 = 0#3 ++ BitVec.ofBool u.phiTilt.isSome ++ BitVec.ofBool u.outlier ++
                BitVec.ofBool u.softStop ++ BitVec.ofBool u.coupling ++ BitVec.ofBool u.saturated ∧
              one 16 u.voteRun))))))

/-- A CLEAR taken from LISTEN to DORMANT with no restart pending. Action 1 clears the latches whose cause is not present, an
event condition leaving the present set with its latch, and the rejoin timer then runs as R149 says; action 2 sets the restart
pending where R177 admits it, by the consensus speed as it stands (log entry 10), and changes nothing where it does not; any other
action is BAD_ITEM. Each is answered with item byte 1, the action, the result and item 1 as it then stands (log entry 16). The causes are those R176 lists: the over-lean counter
above 0, the outlier reported flag, a needed record FAILED, BFLT low and the brake STUCK; the event conditions have none. -/
def Obligations.ClearIsActedOn : Prop :=
  (∀ (s : State) (action : Byte) (h : ServiceHead) (c : Instr), c = clearCommand action h → s.nsc.node.live = true →
    s.bi.tx ≠ .off →
    (s.sr.restartPending = true → exec c s = .next { s with handed := s.handed.erase c }) ∧
    (s.sr.restartPending = false → ∃ t result, exec c s = .next t ∧
      t.bi.slots.report = some ⟨[1, action, result] ++ t.item1, 0⟩ ∧
      (action = 1 → result = 0 ∧ t.sr.restartPending = false ∧
        (∀ d, t.nsc.latches.has d = (s.nsc.latches.has d && s.causePresent d)) ∧
        (∀ d, t.nsc.present.has d = (s.nsc.present.has d && !(isEvent d))) ∧
        t.nsc = { s.nsc with latches := t.nsc.latches, present := t.nsc.present, rejoin := t.nsc.rejoin } ∧ rejoinRuns s t) ∧
      (action = 2 → t.nsc = s.nsc ∧
        (let admitted := s.pvu.speed < s.prm.vStand ∧ (s.pvu.speedStatus = .valid ∨ s.pvu.speedStatus = .single ∨
           s.nsc.node = .listen ∨ s.nsc.node = .clamped ∨ s.nsc.node = .free)
         (admitted → result = 0 ∧ t.sr.restartPending = true) ∧
         (¬admitted → result = 1 ∧ t.sr.restartPending = false))) ∧
      (action ≠ 1 → action ≠ 2 → result = 3 ∧ t.nsc = s.nsc ∧ t.sr.restartPending = false) ∧
      t = { s with nsc := t.nsc, sr := t.sr, free := t.free, handed := s.handed.erase c,
                   bi := { s.bi with slots := { s.bi.slots with report := t.bi.slots.report },
                                     tx := if s.bi.tx = .idle then .waitGap else s.bi.tx } })) ∧
  (∀ s : State,
    (let lasting (c : Condition) (cause : Prop) : Prop := s.causePresent c = true ↔ cause
     lasting .overlean (0 < s.le.overCount) ∧ (s.role = .steer → lasting .voteOutlier (s.slu.outlier = true)) ∧
     (s.role ≠ .steer → lasting .voteOutlier (s.tsu.outlier = true)) ∧
     lasting .sensorFailed (s.channel1.state = .failed ∨ s.channel2.state = .failed) ∧
     lasting .bridgeFault (s.pins.bfltLow = true) ∧ lasting .brakeStuck (s.bcu.state = .stuck) ∧
     lasting .haltTaken False ∧ lasting .linkConflict False ∧ lasting .queueOverrun False))

/-! ## Layouts both ways -/

/-- The CONTRIB and RIDER layouts lose no bit: every frame is read back from its bytes, and every payload of the right length is
written back from the frame it is read as. -/
def Obligations.PayloadLayoutsRoundTrip : Prop :=
  (∀ c : Contrib, c.toBytes.length = 18 ∧ Contrib.ofBytes c.toBytes = c) ∧
  (∀ r : Rider, r.toBytes.length = 6 ∧ Rider.ofBytes r.toBytes = r) ∧
  (∀ l : List Byte, l.length = 18 → (Contrib.ofBytes l).toBytes = l) ∧
  (∀ l : List Byte, l.length = 6 → (Rider.ofBytes l).toBytes = l)

/-- What one station sends another takes: the characters of a frame of up to 33 payload bytes (DEST among them), taken one by one
by a receiver in WAIT_OPEN that accepts the kind from the source, end in HUNT with exactly that frame offered to the queue,
whatever runs the sender made of equal bytes, and change nothing else but the level last read. A character is 11 bits, start 0,
tag, eight data bits with the most significant first, and stop 1, which a receiver reads as the character, and as a framing
error when the stop bit reads 0; SBD puts the bits of a frame in flight on the line one after another, is dominant through a
break and released otherwise; SBS reads each of those bits back as sent, and else reads the line, which is 0 where SBD or another
station drives it (log entry 18). -/
def Obligations.FrameSentIsFrameTaken : Prop :=
  (∀ (s : State) (src : Addr) (k : FrameKind) (payload : List Byte), s.bi.rx = .waitOpen → s.pvu.processing ≠ none →
    src ≠ s.cl.ownAddr → accepts k (s.roleOf src.toNat) = true → payload.length ≤ 33 →
    (k.hasDest = true → ∃ d rest, payload = d :: rest ∧ (d.toNat = s.cl.ownAddr.toNat ∨ d = 15)) →
    ∃ t, takeChars (frameChars (openByte k src) payload) s = some t ∧
      (let f : RxFrame := ⟨src, k, if k.hasDest then payload.head? else none,
         if k.hasDest then payload.tail else payload, s.clock⟩
       t = { s with bi := { s.bi with sbs := true, rx := .hunt, rfq := (offerFrame s.bi.rfq f).1 }
                    handed := s.handed ++ (if (offerFrame s.bi.rfq f).2 then [.conditionReport .queueOverrun true] else []) })) ∧
  (∀ c : LineChar, lineEvent c.word = some c.command ∧ c.word.getLsbD 10 = false ∧ c.word.getLsbD 9 = c.tag ∧
    (∀ i, i < 8 → c.word.getLsbD (i + 1) = c.byte.getLsbD i) ∧ c.word.getLsbD 0 = true) ∧
  (∀ w : BitVec 11, w.getLsbD 10 = false → w.getLsbD 0 = false → lineEvent w = some .framingError) ∧
  (∀ (b : Bi) (f : InFlight) (others : List Bool) (bit : Bool), b.tx = .sending → b.inFlight = some f → f.begun = 0 →
    others ≠ [] → (lineBits (f.chars.map LineChar.word))[others.length - 1]? = some bit →
    (others.foldl Bi.bitTime b).sbd = bit ∧ (b.rx ≠ .off → (others.foldl Bi.bitTime b).sbs = bit)) ∧
  (∀ (b : Bi) (others : Bool), b.tx ≠ .sending → b.rx ≠ .off → (b.bitTime others).sbs = (b.sbd && others)) ∧
  (∀ b : Bi, (b.tx = .aborting → b.sbd = false) ∧ (b.tx ≠ .aborting → b.tx ≠ .sending → b.sbd = true))

/-! ## Invariants -/

/-- The state after reset is sound: every relation of Safety.lean holds of it. -/
def Obligations.ResetStateIsSound : Prop := State.reset.sound

/-- Every step keeps the override stack sound: at most four entries, no tag twice, no release-pending entry at the top, every
count and angle as its kind has it. -/
def Obligations.StepKeepsStackSound : Prop :=
  ∀ s t : State, soundStack s.le.stack → step s = .next t → soundStack t.le.stack

/-- Every step keeps the brake sound: the coil is driven exactly in RELEASED and RELEASING (in STUCK as the demand has it), the
demand is the one the brake state follows, and the timer runs toward the limit of the state and in no other state. -/
def Obligations.StepKeepsBrakeSound : Prop :=
  ∀ s t : State, s.bcu.sound → step s = .next t → t.bcu.sound

/-- Every step keeps the bus interface sound: the receive queue holds at most eight frames and one per source and periodic kind,
the expanded count stays within 35, the transmitter's state agrees with its slots, the frame in flight and the break, and
both halves are off exactly in START and HALTED. -/
def Obligations.StepKeepsBusSound : Prop :=
  ∀ s t : State, soundQueue s.bi.rfq ∧ s.soundBus → step s = .next t → soundQueue t.bi.rfq ∧ t.soundBus

/-- Every step keeps the node's flags, counters and drive sound: an event condition is present exactly while its latch is set,
FLT is asserted exactly in FREE, CLAMPED and HALTED, the counters stay in their ranges, and the duty stays within 100..900
and stands exactly while DREN is raised. Every step keeps the rejoin timer running exactly in FREE and CLAMPED with no serious
condition present and the three holding latches clear. Every step keeps the sweep: the buffer holds the readings of the
transactions ended, the ready timer runs exactly while a sensor transaction waits, and the edge count is 0..2. -/
def Obligations.StepKeepsNodeSound : Prop :=
  (∀ s t : State, s.soundLatches ∧ s.soundFault ∧ s.soundCounts ∧ s.soundDrive → step s = .next t →
    t.soundLatches ∧ t.soundFault ∧ t.soundCounts ∧ t.soundDrive) ∧
  (∀ s t : State, s.soundRejoin → step s = .next t → t.soundRejoin) ∧
  (∀ s t : State, s.mu.sound → step s = .next t → t.mu.sound)
end

