-- ==== Sys2Proof/Laws/State.lean ====
section
/-! SUPPORT. What each update of the state does to each field of it, and what the readers that look at none of the changed
fields read after a hand-off is given or taken. -/

namespace Sys2Proof.Machine

/-! ## hand -/

@[simp] theorem State.hand_clock (s : State) (l : List Instr) : (s.hand l).clock = s.clock := rfl
@[simp] theorem State.hand_pins (s : State) (l : List Instr) : (s.hand l).pins = s.pins := rfl
@[simp] theorem State.hand_drive (s : State) (l : List Instr) : (s.hand l).drive = s.drive := rfl
@[simp] theorem State.hand_cl (s : State) (l : List Instr) : (s.hand l).cl = s.cl := rfl
@[simp] theorem State.hand_prm (s : State) (l : List Instr) : (s.hand l).prm = s.prm := rfl
@[simp] theorem State.hand_le (s : State) (l : List Instr) : (s.hand l).le = s.le := rfl
@[simp] theorem State.hand_tsu (s : State) (l : List Instr) : (s.hand l).tsu = s.tsu := rfl
@[simp] theorem State.hand_slu (s : State) (l : List Instr) : (s.hand l).slu = s.slu := rfl
@[simp] theorem State.hand_bcu (s : State) (l : List Instr) : (s.hand l).bcu = s.bcu := rfl
@[simp] theorem State.hand_mu (s : State) (l : List Instr) : (s.hand l).mu = s.mu := rfl
@[simp] theorem State.hand_pvu (s : State) (l : List Instr) : (s.hand l).pvu = s.pvu := rfl
@[simp] theorem State.hand_nsc (s : State) (l : List Instr) : (s.hand l).nsc = s.nsc := rfl
@[simp] theorem State.hand_bi (s : State) (l : List Instr) : (s.hand l).bi = s.bi := rfl
@[simp] theorem State.hand_sr (s : State) (l : List Instr) : (s.hand l).sr = s.sr := rfl
@[simp] theorem State.hand_pending (s : State) (l : List Instr) : (s.hand l).pending = s.pending := rfl
@[simp] theorem State.hand_handed (s : State) (l : List Instr) : (s.hand l).handed = s.handed ++ l := rfl
@[simp] theorem State.hand_free (s : State) (l : List Instr) : (s.hand l).free = s.free := rfl

/-! ## taken -/

@[simp] theorem State.taken_clock (s : State) (i : Instr) : (s.taken i).clock = s.clock := rfl
@[simp] theorem State.taken_pins (s : State) (i : Instr) : (s.taken i).pins = s.pins := rfl
@[simp] theorem State.taken_drive (s : State) (i : Instr) : (s.taken i).drive = s.drive := rfl
@[simp] theorem State.taken_cl (s : State) (i : Instr) : (s.taken i).cl = s.cl := rfl
@[simp] theorem State.taken_prm (s : State) (i : Instr) : (s.taken i).prm = s.prm := rfl
@[simp] theorem State.taken_le (s : State) (i : Instr) : (s.taken i).le = s.le := rfl
@[simp] theorem State.taken_tsu (s : State) (i : Instr) : (s.taken i).tsu = s.tsu := rfl
@[simp] theorem State.taken_slu (s : State) (i : Instr) : (s.taken i).slu = s.slu := rfl
@[simp] theorem State.taken_bcu (s : State) (i : Instr) : (s.taken i).bcu = s.bcu := rfl
@[simp] theorem State.taken_mu (s : State) (i : Instr) : (s.taken i).mu = s.mu := rfl
@[simp] theorem State.taken_pvu (s : State) (i : Instr) : (s.taken i).pvu = s.pvu := rfl
@[simp] theorem State.taken_nsc (s : State) (i : Instr) : (s.taken i).nsc = s.nsc := rfl
@[simp] theorem State.taken_bi (s : State) (i : Instr) : (s.taken i).bi = s.bi := rfl
@[simp] theorem State.taken_sr (s : State) (i : Instr) : (s.taken i).sr = s.sr := rfl
@[simp] theorem State.taken_pending (s : State) (i : Instr) : (s.taken i).pending = s.pending := rfl
@[simp] theorem State.taken_handed (s : State) (i : Instr) : (s.taken i).handed = s.handed.erase i := rfl
@[simp] theorem State.taken_free (s : State) (i : Instr) : (s.taken i).free = s.free := rfl

/-! ## setRow -/

@[simp] theorem State.setRow_clock (s : State) (a : Nat) (r : Row) : (s.setRow a r).clock = s.clock := rfl
@[simp] theorem State.setRow_pins (s : State) (a : Nat) (r : Row) : (s.setRow a r).pins = s.pins := rfl
@[simp] theorem State.setRow_drive (s : State) (a : Nat) (r : Row) : (s.setRow a r).drive = s.drive := rfl
@[simp] theorem State.setRow_cl (s : State) (a : Nat) (r : Row) : (s.setRow a r).cl = s.cl := rfl
@[simp] theorem State.setRow_prm (s : State) (a : Nat) (r : Row) : (s.setRow a r).prm = s.prm := rfl
@[simp] theorem State.setRow_le (s : State) (a : Nat) (r : Row) : (s.setRow a r).le = s.le := rfl
@[simp] theorem State.setRow_tsu (s : State) (a : Nat) (r : Row) : (s.setRow a r).tsu = s.tsu := rfl
@[simp] theorem State.setRow_slu (s : State) (a : Nat) (r : Row) : (s.setRow a r).slu = s.slu := rfl
@[simp] theorem State.setRow_bcu (s : State) (a : Nat) (r : Row) : (s.setRow a r).bcu = s.bcu := rfl
@[simp] theorem State.setRow_mu (s : State) (a : Nat) (r : Row) : (s.setRow a r).mu = s.mu := rfl
@[simp] theorem State.setRow_pvu (s : State) (a : Nat) (r : Row) : (s.setRow a r).pvu = { s.pvu with table := s.pvu.table.setIfInBounds a r } := rfl
@[simp] theorem State.setRow_nsc (s : State) (a : Nat) (r : Row) : (s.setRow a r).nsc = s.nsc := rfl
@[simp] theorem State.setRow_bi (s : State) (a : Nat) (r : Row) : (s.setRow a r).bi = s.bi := rfl
@[simp] theorem State.setRow_sr (s : State) (a : Nat) (r : Row) : (s.setRow a r).sr = s.sr := rfl
@[simp] theorem State.setRow_pending (s : State) (a : Nat) (r : Row) : (s.setRow a r).pending = s.pending := rfl
@[simp] theorem State.setRow_handed (s : State) (a : Nat) (r : Row) : (s.setRow a r).handed = s.handed := rfl
@[simp] theorem State.setRow_free (s : State) (a : Nat) (r : Row) : (s.setRow a r).free = s.free := rfl

/-! ## setRx -/

@[simp] theorem State.setRx_clock (s : State) (r : Receiver) : (s.setRx r).clock = s.clock := rfl
@[simp] theorem State.setRx_pins (s : State) (r : Receiver) : (s.setRx r).pins = s.pins := rfl
@[simp] theorem State.setRx_drive (s : State) (r : Receiver) : (s.setRx r).drive = s.drive := rfl
@[simp] theorem State.setRx_cl (s : State) (r : Receiver) : (s.setRx r).cl = s.cl := rfl
@[simp] theorem State.setRx_prm (s : State) (r : Receiver) : (s.setRx r).prm = s.prm := rfl
@[simp] theorem State.setRx_le (s : State) (r : Receiver) : (s.setRx r).le = s.le := rfl
@[simp] theorem State.setRx_tsu (s : State) (r : Receiver) : (s.setRx r).tsu = s.tsu := rfl
@[simp] theorem State.setRx_slu (s : State) (r : Receiver) : (s.setRx r).slu = s.slu := rfl
@[simp] theorem State.setRx_bcu (s : State) (r : Receiver) : (s.setRx r).bcu = s.bcu := rfl
@[simp] theorem State.setRx_mu (s : State) (r : Receiver) : (s.setRx r).mu = s.mu := rfl
@[simp] theorem State.setRx_pvu (s : State) (r : Receiver) : (s.setRx r).pvu = s.pvu := rfl
@[simp] theorem State.setRx_nsc (s : State) (r : Receiver) : (s.setRx r).nsc = s.nsc := rfl
@[simp] theorem State.setRx_bi (s : State) (r : Receiver) : (s.setRx r).bi = { s.bi with rx := r } := rfl
@[simp] theorem State.setRx_sr (s : State) (r : Receiver) : (s.setRx r).sr = s.sr := rfl
@[simp] theorem State.setRx_pending (s : State) (r : Receiver) : (s.setRx r).pending = s.pending := rfl
@[simp] theorem State.setRx_handed (s : State) (r : Receiver) : (s.setRx r).handed = s.handed := rfl
@[simp] theorem State.setRx_free (s : State) (r : Receiver) : (s.setRx r).free = s.free := rfl

/-! ## setBcu -/

@[simp] theorem State.setBcu_clock (s : State) (b : Bcu) : (s.setBcu b).clock = s.clock := rfl
@[simp] theorem State.setBcu_pins (s : State) (b : Bcu) : (s.setBcu b).pins = s.pins := rfl
@[simp] theorem State.setBcu_drive (s : State) (b : Bcu) : (s.setBcu b).drive = s.drive := rfl
@[simp] theorem State.setBcu_cl (s : State) (b : Bcu) : (s.setBcu b).cl = s.cl := rfl
@[simp] theorem State.setBcu_prm (s : State) (b : Bcu) : (s.setBcu b).prm = s.prm := rfl
@[simp] theorem State.setBcu_le (s : State) (b : Bcu) : (s.setBcu b).le = s.le := rfl
@[simp] theorem State.setBcu_tsu (s : State) (b : Bcu) : (s.setBcu b).tsu = s.tsu := rfl
@[simp] theorem State.setBcu_slu (s : State) (b : Bcu) : (s.setBcu b).slu = s.slu := rfl
@[simp] theorem State.setBcu_bcu (s : State) (b : Bcu) : (s.setBcu b).bcu = b := rfl
@[simp] theorem State.setBcu_mu (s : State) (b : Bcu) : (s.setBcu b).mu = s.mu := rfl
@[simp] theorem State.setBcu_pvu (s : State) (b : Bcu) : (s.setBcu b).pvu = s.pvu := rfl
@[simp] theorem State.setBcu_nsc (s : State) (b : Bcu) : (s.setBcu b).nsc = s.nsc := rfl
@[simp] theorem State.setBcu_bi (s : State) (b : Bcu) : (s.setBcu b).bi = s.bi := rfl
@[simp] theorem State.setBcu_sr (s : State) (b : Bcu) : (s.setBcu b).sr = s.sr := rfl
@[simp] theorem State.setBcu_pending (s : State) (b : Bcu) : (s.setBcu b).pending = s.pending := rfl
@[simp] theorem State.setBcu_handed (s : State) (b : Bcu) : (s.setBcu b).handed = s.handed := rfl
@[simp] theorem State.setBcu_free (s : State) (b : Bcu) : (s.setBcu b).free = s.free := rfl

/-! ## setNsc -/

@[simp] theorem State.setNsc_clock (s : State) (n : Nsc) : (s.setNsc n).clock = s.clock := rfl
@[simp] theorem State.setNsc_pins (s : State) (n : Nsc) : (s.setNsc n).pins = s.pins := rfl
@[simp] theorem State.setNsc_drive (s : State) (n : Nsc) : (s.setNsc n).drive = s.drive := rfl
@[simp] theorem State.setNsc_cl (s : State) (n : Nsc) : (s.setNsc n).cl = s.cl := rfl
@[simp] theorem State.setNsc_prm (s : State) (n : Nsc) : (s.setNsc n).prm = s.prm := rfl
@[simp] theorem State.setNsc_le (s : State) (n : Nsc) : (s.setNsc n).le = s.le := rfl
@[simp] theorem State.setNsc_tsu (s : State) (n : Nsc) : (s.setNsc n).tsu = s.tsu := rfl
@[simp] theorem State.setNsc_slu (s : State) (n : Nsc) : (s.setNsc n).slu = s.slu := rfl
@[simp] theorem State.setNsc_bcu (s : State) (n : Nsc) : (s.setNsc n).bcu = s.bcu := rfl
@[simp] theorem State.setNsc_mu (s : State) (n : Nsc) : (s.setNsc n).mu = s.mu := rfl
@[simp] theorem State.setNsc_pvu (s : State) (n : Nsc) : (s.setNsc n).pvu = s.pvu := rfl
@[simp] theorem State.setNsc_nsc (s : State) (n : Nsc) : (s.setNsc n).nsc = n := rfl
@[simp] theorem State.setNsc_bi (s : State) (n : Nsc) : (s.setNsc n).bi = s.bi := rfl
@[simp] theorem State.setNsc_sr (s : State) (n : Nsc) : (s.setNsc n).sr = s.sr := rfl
@[simp] theorem State.setNsc_pending (s : State) (n : Nsc) : (s.setNsc n).pending = s.pending := rfl
@[simp] theorem State.setNsc_handed (s : State) (n : Nsc) : (s.setNsc n).handed = s.handed := rfl
@[simp] theorem State.setNsc_free (s : State) (n : Nsc) : (s.setNsc n).free = s.free := rfl

/-! ## setRefusal -/

@[simp] theorem State.setRefusal_clock (s : State) (r : RefusalReason) : (s.setRefusal r).clock = s.clock := rfl
@[simp] theorem State.setRefusal_pins (s : State) (r : RefusalReason) : (s.setRefusal r).pins = s.pins := rfl
@[simp] theorem State.setRefusal_drive (s : State) (r : RefusalReason) : (s.setRefusal r).drive = s.drive := rfl
@[simp] theorem State.setRefusal_cl (s : State) (r : RefusalReason) : (s.setRefusal r).cl = s.cl := rfl
@[simp] theorem State.setRefusal_prm (s : State) (r : RefusalReason) : (s.setRefusal r).prm = s.prm := rfl
@[simp] theorem State.setRefusal_le (s : State) (r : RefusalReason) : (s.setRefusal r).le = { s.le with lastRefusal := r } := rfl
@[simp] theorem State.setRefusal_tsu (s : State) (r : RefusalReason) : (s.setRefusal r).tsu = s.tsu := rfl
@[simp] theorem State.setRefusal_slu (s : State) (r : RefusalReason) : (s.setRefusal r).slu = s.slu := rfl
@[simp] theorem State.setRefusal_bcu (s : State) (r : RefusalReason) : (s.setRefusal r).bcu = s.bcu := rfl
@[simp] theorem State.setRefusal_mu (s : State) (r : RefusalReason) : (s.setRefusal r).mu = s.mu := rfl
@[simp] theorem State.setRefusal_pvu (s : State) (r : RefusalReason) : (s.setRefusal r).pvu = s.pvu := rfl
@[simp] theorem State.setRefusal_nsc (s : State) (r : RefusalReason) : (s.setRefusal r).nsc = s.nsc := rfl
@[simp] theorem State.setRefusal_bi (s : State) (r : RefusalReason) : (s.setRefusal r).bi = s.bi := rfl
@[simp] theorem State.setRefusal_sr (s : State) (r : RefusalReason) : (s.setRefusal r).sr = s.sr := rfl
@[simp] theorem State.setRefusal_pending (s : State) (r : RefusalReason) : (s.setRefusal r).pending = s.pending := rfl
@[simp] theorem State.setRefusal_handed (s : State) (r : RefusalReason) : (s.setRefusal r).handed = s.handed := rfl
@[simp] theorem State.setRefusal_free (s : State) (r : RefusalReason) : (s.setRefusal r).free = s.free := rfl

/-! ## setMismatch -/

@[simp] theorem State.setMismatch_clock (s : State) (n : Nat) : (s.setMismatch n).clock = s.clock := rfl
@[simp] theorem State.setMismatch_pins (s : State) (n : Nat) : (s.setMismatch n).pins = s.pins := rfl
@[simp] theorem State.setMismatch_drive (s : State) (n : Nat) : (s.setMismatch n).drive = s.drive := rfl
@[simp] theorem State.setMismatch_cl (s : State) (n : Nat) : (s.setMismatch n).cl = s.cl := rfl
@[simp] theorem State.setMismatch_prm (s : State) (n : Nat) : (s.setMismatch n).prm = s.prm := rfl
@[simp] theorem State.setMismatch_le (s : State) (n : Nat) : (s.setMismatch n).le = { s.le with mismatch := n } := rfl
@[simp] theorem State.setMismatch_tsu (s : State) (n : Nat) : (s.setMismatch n).tsu = s.tsu := rfl
@[simp] theorem State.setMismatch_slu (s : State) (n : Nat) : (s.setMismatch n).slu = s.slu := rfl
@[simp] theorem State.setMismatch_bcu (s : State) (n : Nat) : (s.setMismatch n).bcu = s.bcu := rfl
@[simp] theorem State.setMismatch_mu (s : State) (n : Nat) : (s.setMismatch n).mu = s.mu := rfl
@[simp] theorem State.setMismatch_pvu (s : State) (n : Nat) : (s.setMismatch n).pvu = s.pvu := rfl
@[simp] theorem State.setMismatch_nsc (s : State) (n : Nat) : (s.setMismatch n).nsc = s.nsc := rfl
@[simp] theorem State.setMismatch_bi (s : State) (n : Nat) : (s.setMismatch n).bi = s.bi := rfl
@[simp] theorem State.setMismatch_sr (s : State) (n : Nat) : (s.setMismatch n).sr = s.sr := rfl
@[simp] theorem State.setMismatch_pending (s : State) (n : Nat) : (s.setMismatch n).pending = s.pending := rfl
@[simp] theorem State.setMismatch_handed (s : State) (n : Nat) : (s.setMismatch n).handed = s.handed := rfl
@[simp] theorem State.setMismatch_free (s : State) (n : Nat) : (s.setMismatch n).free = s.free := rfl

/-! ## publish -/

@[simp] theorem State.publish_clock (s : State) (x y : Int) : (s.publish x y).clock = s.clock := rfl
@[simp] theorem State.publish_pins (s : State) (x y : Int) : (s.publish x y).pins = s.pins := rfl
@[simp] theorem State.publish_drive (s : State) (x y : Int) : (s.publish x y).drive = s.drive := rfl
@[simp] theorem State.publish_cl (s : State) (x y : Int) : (s.publish x y).cl = s.cl := rfl
@[simp] theorem State.publish_prm (s : State) (x y : Int) : (s.publish x y).prm = s.prm := rfl
@[simp] theorem State.publish_le (s : State) (x y : Int) : (s.publish x y).le = { s.le with phiT := x, omegaT := y, prev := x, lastRun := some s.nsc.node } := rfl
@[simp] theorem State.publish_tsu (s : State) (x y : Int) : (s.publish x y).tsu = s.tsu := rfl
@[simp] theorem State.publish_slu (s : State) (x y : Int) : (s.publish x y).slu = s.slu := rfl
@[simp] theorem State.publish_bcu (s : State) (x y : Int) : (s.publish x y).bcu = s.bcu := rfl
@[simp] theorem State.publish_mu (s : State) (x y : Int) : (s.publish x y).mu = s.mu := rfl
@[simp] theorem State.publish_pvu (s : State) (x y : Int) : (s.publish x y).pvu = s.pvu := rfl
@[simp] theorem State.publish_nsc (s : State) (x y : Int) : (s.publish x y).nsc = s.nsc := rfl
@[simp] theorem State.publish_bi (s : State) (x y : Int) : (s.publish x y).bi = s.bi := rfl
@[simp] theorem State.publish_sr (s : State) (x y : Int) : (s.publish x y).sr = s.sr := rfl
@[simp] theorem State.publish_pending (s : State) (x y : Int) : (s.publish x y).pending = s.pending := rfl
@[simp] theorem State.publish_handed (s : State) (x y : Int) : (s.publish x y).handed = s.handed := rfl
@[simp] theorem State.publish_free (s : State) (x y : Int) : (s.publish x y).free = s.free := rfl

/-! ## evalDwell -/

@[simp] theorem State.evalDwell_clock (s : State) (v : Nat) (st : SpeedStatus) : (s.evalDwell v st).clock = s.clock := rfl
@[simp] theorem State.evalDwell_pins (s : State) (v : Nat) (st : SpeedStatus) : (s.evalDwell v st).pins = s.pins := rfl
@[simp] theorem State.evalDwell_drive (s : State) (v : Nat) (st : SpeedStatus) : (s.evalDwell v st).drive = s.drive := rfl
@[simp] theorem State.evalDwell_cl (s : State) (v : Nat) (st : SpeedStatus) : (s.evalDwell v st).cl = s.cl := rfl
@[simp] theorem State.evalDwell_prm (s : State) (v : Nat) (st : SpeedStatus) : (s.evalDwell v st).prm = s.prm := rfl
@[simp] theorem State.evalDwell_le (s : State) (v : Nat) (st : SpeedStatus) : (s.evalDwell v st).le = { s.le with dwell := Timer.keep s.le.dwell (s.dwellHolds v st) } := rfl
@[simp] theorem State.evalDwell_tsu (s : State) (v : Nat) (st : SpeedStatus) : (s.evalDwell v st).tsu = s.tsu := rfl
@[simp] theorem State.evalDwell_slu (s : State) (v : Nat) (st : SpeedStatus) : (s.evalDwell v st).slu = s.slu := rfl
@[simp] theorem State.evalDwell_bcu (s : State) (v : Nat) (st : SpeedStatus) : (s.evalDwell v st).bcu = s.bcu := rfl
@[simp] theorem State.evalDwell_mu (s : State) (v : Nat) (st : SpeedStatus) : (s.evalDwell v st).mu = s.mu := rfl
@[simp] theorem State.evalDwell_pvu (s : State) (v : Nat) (st : SpeedStatus) : (s.evalDwell v st).pvu = s.pvu := rfl
@[simp] theorem State.evalDwell_nsc (s : State) (v : Nat) (st : SpeedStatus) : (s.evalDwell v st).nsc = s.nsc := rfl
@[simp] theorem State.evalDwell_bi (s : State) (v : Nat) (st : SpeedStatus) : (s.evalDwell v st).bi = s.bi := rfl
@[simp] theorem State.evalDwell_sr (s : State) (v : Nat) (st : SpeedStatus) : (s.evalDwell v st).sr = s.sr := rfl
@[simp] theorem State.evalDwell_pending (s : State) (v : Nat) (st : SpeedStatus) : (s.evalDwell v st).pending = s.pending := rfl
@[simp] theorem State.evalDwell_handed (s : State) (v : Nat) (st : SpeedStatus) : (s.evalDwell v st).handed = s.handed := rfl
@[simp] theorem State.evalDwell_free (s : State) (v : Nat) (st : SpeedStatus) : (s.evalDwell v st).free = s.free := rfl

/-! ## evalRejoin -/

@[simp] theorem State.evalRejoin_clock (s : State) : s.evalRejoin.clock = s.clock := rfl
@[simp] theorem State.evalRejoin_pins (s : State) : s.evalRejoin.pins = s.pins := rfl
@[simp] theorem State.evalRejoin_drive (s : State) : s.evalRejoin.drive = s.drive := rfl
@[simp] theorem State.evalRejoin_cl (s : State) : s.evalRejoin.cl = s.cl := rfl
@[simp] theorem State.evalRejoin_prm (s : State) : s.evalRejoin.prm = s.prm := rfl
@[simp] theorem State.evalRejoin_le (s : State) : s.evalRejoin.le = s.le := rfl
@[simp] theorem State.evalRejoin_tsu (s : State) : s.evalRejoin.tsu = s.tsu := rfl
@[simp] theorem State.evalRejoin_slu (s : State) : s.evalRejoin.slu = s.slu := rfl
@[simp] theorem State.evalRejoin_bcu (s : State) : s.evalRejoin.bcu = s.bcu := rfl
@[simp] theorem State.evalRejoin_mu (s : State) : s.evalRejoin.mu = s.mu := rfl
@[simp] theorem State.evalRejoin_pvu (s : State) : s.evalRejoin.pvu = s.pvu := rfl
@[simp] theorem State.evalRejoin_nsc (s : State) : s.evalRejoin.nsc = { s.nsc with rejoin := Timer.keep s.nsc.rejoin s.nsc.rejoinHolds } := rfl
@[simp] theorem State.evalRejoin_bi (s : State) : s.evalRejoin.bi = s.bi := rfl
@[simp] theorem State.evalRejoin_sr (s : State) : s.evalRejoin.sr = s.sr := rfl
@[simp] theorem State.evalRejoin_pending (s : State) : s.evalRejoin.pending = s.pending := rfl
@[simp] theorem State.evalRejoin_handed (s : State) : s.evalRejoin.handed = s.handed := rfl
@[simp] theorem State.evalRejoin_free (s : State) : s.evalRejoin.free = s.free := rfl

/-! ## enterNode -/

@[simp] theorem State.enterNode_clock (s : State) (n : NodeState) : (s.enterNode n).clock = s.clock := rfl
@[simp] theorem State.enterNode_pins (s : State) (n : NodeState) : (s.enterNode n).pins = s.pins := rfl
@[simp] theorem State.enterNode_drive (s : State) (n : NodeState) : (s.enterNode n).drive = s.drive := rfl
@[simp] theorem State.enterNode_cl (s : State) (n : NodeState) : (s.enterNode n).cl = s.cl := rfl
@[simp] theorem State.enterNode_prm (s : State) (n : NodeState) : (s.enterNode n).prm = s.prm := rfl
@[simp] theorem State.enterNode_le (s : State) (n : NodeState) : (s.enterNode n).le = s.le := rfl
@[simp] theorem State.enterNode_tsu (s : State) (n : NodeState) : (s.enterNode n).tsu = s.tsu := rfl
@[simp] theorem State.enterNode_slu (s : State) (n : NodeState) : (s.enterNode n).slu = s.slu := rfl
@[simp] theorem State.enterNode_bcu (s : State) (n : NodeState) : (s.enterNode n).bcu = s.bcu := rfl
@[simp] theorem State.enterNode_mu (s : State) (n : NodeState) : (s.enterNode n).mu = s.mu := rfl
@[simp] theorem State.enterNode_pvu (s : State) (n : NodeState) : (s.enterNode n).pvu = s.pvu := rfl
@[simp] theorem State.enterNode_nsc (s : State) (n : NodeState) : (s.enterNode n).nsc = s.nsc.enter n s.measured := rfl
@[simp] theorem State.enterNode_bi (s : State) (n : NodeState) : (s.enterNode n).bi = s.bi := rfl
@[simp] theorem State.enterNode_sr (s : State) (n : NodeState) : (s.enterNode n).sr = s.sr := rfl
@[simp] theorem State.enterNode_pending (s : State) (n : NodeState) : (s.enterNode n).pending = s.pending := rfl
@[simp] theorem State.enterNode_handed (s : State) (n : NodeState) : (s.enterNode n).handed = s.handed ++ s.nodeNotices s.nsc.node n := rfl
@[simp] theorem State.enterNode_free (s : State) (n : NodeState) : (s.enterNode n).free = s.free := rfl

/-! ## handReports -/

@[simp] theorem State.handReports_clock (s : State) (l : List Report) : (s.handReports l).clock = s.clock := rfl
@[simp] theorem State.handReports_pins (s : State) (l : List Report) : (s.handReports l).pins = s.pins := rfl
@[simp] theorem State.handReports_drive (s : State) (l : List Report) : (s.handReports l).drive = s.drive := rfl
@[simp] theorem State.handReports_cl (s : State) (l : List Report) : (s.handReports l).cl = s.cl := rfl
@[simp] theorem State.handReports_prm (s : State) (l : List Report) : (s.handReports l).prm = s.prm := rfl
@[simp] theorem State.handReports_le (s : State) (l : List Report) : (s.handReports l).le = s.le := rfl
@[simp] theorem State.handReports_tsu (s : State) (l : List Report) : (s.handReports l).tsu = s.tsu := rfl
@[simp] theorem State.handReports_slu (s : State) (l : List Report) : (s.handReports l).slu = s.slu := rfl
@[simp] theorem State.handReports_bcu (s : State) (l : List Report) : (s.handReports l).bcu = s.bcu := rfl
@[simp] theorem State.handReports_mu (s : State) (l : List Report) : (s.handReports l).mu = s.mu := rfl
@[simp] theorem State.handReports_pvu (s : State) (l : List Report) : (s.handReports l).pvu = s.pvu := rfl
@[simp] theorem State.handReports_nsc (s : State) (l : List Report) : (s.handReports l).nsc = s.nsc := rfl
@[simp] theorem State.handReports_bi (s : State) (l : List Report) : (s.handReports l).bi = s.bi := rfl
@[simp] theorem State.handReports_sr (s : State) (l : List Report) : (s.handReports l).sr = s.sr := rfl
@[simp] theorem State.handReports_pending (s : State) (l : List Report) : (s.handReports l).pending = s.pending := rfl
@[simp] theorem State.handReports_handed (s : State) (l : List Report) : (s.handReports l).handed = s.handed ++ l.map (fun q => .conditionReport q.1 q.2) := rfl
@[simp] theorem State.handReports_free (s : State) (l : List Report) : (s.handReports l).free = s.free := rfl

/-! ## keepImage -/

@[simp] theorem State.keepImage_clock (s : State) (im : Image) (p : LoadPhase) : (s.keepImage im p).clock = s.clock := rfl
@[simp] theorem State.keepImage_pins (s : State) (im : Image) (p : LoadPhase) : (s.keepImage im p).pins = s.pins := rfl
@[simp] theorem State.keepImage_drive (s : State) (im : Image) (p : LoadPhase) : (s.keepImage im p).drive = s.drive := rfl
@[simp] theorem State.keepImage_cl (s : State) (im : Image) (p : LoadPhase) : (s.keepImage im p).cl = { s.cl with phase := p, image := some im } := rfl
@[simp] theorem State.keepImage_prm (s : State) (im : Image) (p : LoadPhase) : (s.keepImage im p).prm = s.prm := rfl
@[simp] theorem State.keepImage_le (s : State) (im : Image) (p : LoadPhase) : (s.keepImage im p).le = s.le := rfl
@[simp] theorem State.keepImage_tsu (s : State) (im : Image) (p : LoadPhase) : (s.keepImage im p).tsu = s.tsu := rfl
@[simp] theorem State.keepImage_slu (s : State) (im : Image) (p : LoadPhase) : (s.keepImage im p).slu = s.slu := rfl
@[simp] theorem State.keepImage_bcu (s : State) (im : Image) (p : LoadPhase) : (s.keepImage im p).bcu = s.bcu := rfl
@[simp] theorem State.keepImage_mu (s : State) (im : Image) (p : LoadPhase) : (s.keepImage im p).mu = s.mu := rfl
@[simp] theorem State.keepImage_pvu (s : State) (im : Image) (p : LoadPhase) : (s.keepImage im p).pvu = s.pvu := rfl
@[simp] theorem State.keepImage_nsc (s : State) (im : Image) (p : LoadPhase) : (s.keepImage im p).nsc = s.nsc := rfl
@[simp] theorem State.keepImage_bi (s : State) (im : Image) (p : LoadPhase) : (s.keepImage im p).bi = s.bi := rfl
@[simp] theorem State.keepImage_sr (s : State) (im : Image) (p : LoadPhase) : (s.keepImage im p).sr = s.sr := rfl
@[simp] theorem State.keepImage_pending (s : State) (im : Image) (p : LoadPhase) : (s.keepImage im p).pending = s.pending := rfl
@[simp] theorem State.keepImage_handed (s : State) (im : Image) (p : LoadPhase) : (s.keepImage im p).handed = s.handed := rfl
@[simp] theorem State.keepImage_free (s : State) (im : Image) (p : LoadPhase) : (s.keepImage im p).free = s.free := rfl

/-! ## loadUnits -/

@[simp] theorem State.loadUnits_clock (s : State) (im : Image) : (s.loadUnits im).clock = s.clock := rfl
@[simp] theorem State.loadUnits_pins (s : State) (im : Image) : (s.loadUnits im).pins = s.pins := rfl
@[simp] theorem State.loadUnits_drive (s : State) (im : Image) : (s.loadUnits im).drive = s.drive := rfl
@[simp] theorem State.loadUnits_cl (s : State) (im : Image) : (s.loadUnits im).cl = s.cl := rfl
@[simp] theorem State.loadUnits_prm (s : State) (im : Image) : (s.loadUnits im).prm = paramsOf im := rfl
@[simp] theorem State.loadUnits_le (s : State) (im : Image) : (s.loadUnits im).le = { s.le with periodTimer := some 0 } := rfl
@[simp] theorem State.loadUnits_tsu (s : State) (im : Image) : (s.loadUnits im).tsu = s.tsu := rfl
@[simp] theorem State.loadUnits_slu (s : State) (im : Image) : (s.loadUnits im).slu = s.slu := rfl
@[simp] theorem State.loadUnits_bcu (s : State) (im : Image) : (s.loadUnits im).bcu = s.bcu := rfl
@[simp] theorem State.loadUnits_mu (s : State) (im : Image) : (s.loadUnits im).mu = { s.mu with records := s.mu.records.forRole (paramsOf im).ownRole, sweepTimer := some 0 } := rfl
@[simp] theorem State.loadUnits_pvu (s : State) (im : Image) : (s.loadUnits im).pvu = { s.pvu with roster := rosterOf im, rowSweep := some 0 } := rfl
@[simp] theorem State.loadUnits_nsc (s : State) (im : Image) : (s.loadUnits im).nsc = s.nsc := rfl
@[simp] theorem State.loadUnits_bi (s : State) (im : Image) : (s.loadUnits im).bi = { s.bi with rx := .hunt, tx := .idle } := rfl
@[simp] theorem State.loadUnits_sr (s : State) (im : Image) : (s.loadUnits im).sr = s.sr := rfl
@[simp] theorem State.loadUnits_pending (s : State) (im : Image) : (s.loadUnits im).pending = s.pending := rfl
@[simp] theorem State.loadUnits_handed (s : State) (im : Image) : (s.loadUnits im).handed = s.handed := rfl
@[simp] theorem State.loadUnits_free (s : State) (im : Image) : (s.loadUnits im).free = s.free := rfl

/-! ## setLeSpeed -/

@[simp] theorem State.setLeSpeed_clock (s : State) (v : Nat) (st : SpeedStatus) : (s.setLeSpeed v st).clock = s.clock := rfl
@[simp] theorem State.setLeSpeed_pins (s : State) (v : Nat) (st : SpeedStatus) : (s.setLeSpeed v st).pins = s.pins := rfl
@[simp] theorem State.setLeSpeed_drive (s : State) (v : Nat) (st : SpeedStatus) : (s.setLeSpeed v st).drive = s.drive := rfl
@[simp] theorem State.setLeSpeed_cl (s : State) (v : Nat) (st : SpeedStatus) : (s.setLeSpeed v st).cl = s.cl := rfl
@[simp] theorem State.setLeSpeed_prm (s : State) (v : Nat) (st : SpeedStatus) : (s.setLeSpeed v st).prm = s.prm := rfl
@[simp] theorem State.setLeSpeed_le (s : State) (v : Nat) (st : SpeedStatus) : (s.setLeSpeed v st).le = { s.le with speed := ⟨v, st⟩ } := rfl
@[simp] theorem State.setLeSpeed_tsu (s : State) (v : Nat) (st : SpeedStatus) : (s.setLeSpeed v st).tsu = s.tsu := rfl
@[simp] theorem State.setLeSpeed_slu (s : State) (v : Nat) (st : SpeedStatus) : (s.setLeSpeed v st).slu = s.slu := rfl
@[simp] theorem State.setLeSpeed_bcu (s : State) (v : Nat) (st : SpeedStatus) : (s.setLeSpeed v st).bcu = s.bcu := rfl
@[simp] theorem State.setLeSpeed_mu (s : State) (v : Nat) (st : SpeedStatus) : (s.setLeSpeed v st).mu = s.mu := rfl
@[simp] theorem State.setLeSpeed_pvu (s : State) (v : Nat) (st : SpeedStatus) : (s.setLeSpeed v st).pvu = s.pvu := rfl
@[simp] theorem State.setLeSpeed_nsc (s : State) (v : Nat) (st : SpeedStatus) : (s.setLeSpeed v st).nsc = s.nsc := rfl
@[simp] theorem State.setLeSpeed_bi (s : State) (v : Nat) (st : SpeedStatus) : (s.setLeSpeed v st).bi = s.bi := rfl
@[simp] theorem State.setLeSpeed_sr (s : State) (v : Nat) (st : SpeedStatus) : (s.setLeSpeed v st).sr = s.sr := rfl
@[simp] theorem State.setLeSpeed_pending (s : State) (v : Nat) (st : SpeedStatus) : (s.setLeSpeed v st).pending = s.pending := rfl
@[simp] theorem State.setLeSpeed_handed (s : State) (v : Nat) (st : SpeedStatus) : (s.setLeSpeed v st).handed = s.handed := rfl
@[simp] theorem State.setLeSpeed_free (s : State) (v : Nat) (st : SpeedStatus) : (s.setLeSpeed v st).free = s.free := rfl

/-! ## setNscSpeed -/

@[simp] theorem State.setNscSpeed_clock (s : State) (v : Nat) (st : SpeedStatus) : (s.setNscSpeed v st).clock = s.clock := rfl
@[simp] theorem State.setNscSpeed_pins (s : State) (v : Nat) (st : SpeedStatus) : (s.setNscSpeed v st).pins = s.pins := rfl
@[simp] theorem State.setNscSpeed_drive (s : State) (v : Nat) (st : SpeedStatus) : (s.setNscSpeed v st).drive = s.drive := rfl
@[simp] theorem State.setNscSpeed_cl (s : State) (v : Nat) (st : SpeedStatus) : (s.setNscSpeed v st).cl = s.cl := rfl
@[simp] theorem State.setNscSpeed_prm (s : State) (v : Nat) (st : SpeedStatus) : (s.setNscSpeed v st).prm = s.prm := rfl
@[simp] theorem State.setNscSpeed_le (s : State) (v : Nat) (st : SpeedStatus) : (s.setNscSpeed v st).le = s.le := rfl
@[simp] theorem State.setNscSpeed_tsu (s : State) (v : Nat) (st : SpeedStatus) : (s.setNscSpeed v st).tsu = s.tsu := rfl
@[simp] theorem State.setNscSpeed_slu (s : State) (v : Nat) (st : SpeedStatus) : (s.setNscSpeed v st).slu = s.slu := rfl
@[simp] theorem State.setNscSpeed_bcu (s : State) (v : Nat) (st : SpeedStatus) : (s.setNscSpeed v st).bcu = s.bcu := rfl
@[simp] theorem State.setNscSpeed_mu (s : State) (v : Nat) (st : SpeedStatus) : (s.setNscSpeed v st).mu = s.mu := rfl
@[simp] theorem State.setNscSpeed_pvu (s : State) (v : Nat) (st : SpeedStatus) : (s.setNscSpeed v st).pvu = s.pvu := rfl
@[simp] theorem State.setNscSpeed_nsc (s : State) (v : Nat) (st : SpeedStatus) : (s.setNscSpeed v st).nsc = { s.nsc with speed := ⟨v, st⟩ } := rfl
@[simp] theorem State.setNscSpeed_bi (s : State) (v : Nat) (st : SpeedStatus) : (s.setNscSpeed v st).bi = s.bi := rfl
@[simp] theorem State.setNscSpeed_sr (s : State) (v : Nat) (st : SpeedStatus) : (s.setNscSpeed v st).sr = s.sr := rfl
@[simp] theorem State.setNscSpeed_pending (s : State) (v : Nat) (st : SpeedStatus) : (s.setNscSpeed v st).pending = s.pending := rfl
@[simp] theorem State.setNscSpeed_handed (s : State) (v : Nat) (st : SpeedStatus) : (s.setNscSpeed v st).handed = s.handed := rfl
@[simp] theorem State.setNscSpeed_free (s : State) (v : Nat) (st : SpeedStatus) : (s.setNscSpeed v st).free = s.free := rfl

/-! ## tsuChanges -/

@[simp] theorem State.tsuChanges_clock (s : State) (l : List (NodeState × NodeState)) : (s.tsuChanges l).clock = s.clock := rfl
@[simp] theorem State.tsuChanges_pins (s : State) (l : List (NodeState × NodeState)) : (s.tsuChanges l).pins = s.pins := rfl
@[simp] theorem State.tsuChanges_drive (s : State) (l : List (NodeState × NodeState)) : (s.tsuChanges l).drive = l.foldl (fun d q => driveChange q.1 q.2 d) s.drive := rfl
@[simp] theorem State.tsuChanges_cl (s : State) (l : List (NodeState × NodeState)) : (s.tsuChanges l).cl = s.cl := rfl
@[simp] theorem State.tsuChanges_prm (s : State) (l : List (NodeState × NodeState)) : (s.tsuChanges l).prm = s.prm := rfl
@[simp] theorem State.tsuChanges_le (s : State) (l : List (NodeState × NodeState)) : (s.tsuChanges l).le = s.le := rfl
@[simp] theorem State.tsuChanges_tsu (s : State) (l : List (NodeState × NodeState)) : (s.tsuChanges l).tsu = { s.tsu with ramp := l.foldl (fun x q => rampChange q.1 q.2 s.clock x) s.tsu.ramp } := rfl
@[simp] theorem State.tsuChanges_slu (s : State) (l : List (NodeState × NodeState)) : (s.tsuChanges l).slu = s.slu := rfl
@[simp] theorem State.tsuChanges_bcu (s : State) (l : List (NodeState × NodeState)) : (s.tsuChanges l).bcu = s.bcu := rfl
@[simp] theorem State.tsuChanges_mu (s : State) (l : List (NodeState × NodeState)) : (s.tsuChanges l).mu = s.mu := rfl
@[simp] theorem State.tsuChanges_pvu (s : State) (l : List (NodeState × NodeState)) : (s.tsuChanges l).pvu = s.pvu := rfl
@[simp] theorem State.tsuChanges_nsc (s : State) (l : List (NodeState × NodeState)) : (s.tsuChanges l).nsc = s.nsc := rfl
@[simp] theorem State.tsuChanges_bi (s : State) (l : List (NodeState × NodeState)) : (s.tsuChanges l).bi = s.bi := rfl
@[simp] theorem State.tsuChanges_sr (s : State) (l : List (NodeState × NodeState)) : (s.tsuChanges l).sr = s.sr := rfl
@[simp] theorem State.tsuChanges_pending (s : State) (l : List (NodeState × NodeState)) : (s.tsuChanges l).pending = s.pending := rfl
@[simp] theorem State.tsuChanges_handed (s : State) (l : List (NodeState × NodeState)) : (s.tsuChanges l).handed = s.handed := rfl
@[simp] theorem State.tsuChanges_free (s : State) (l : List (NodeState × NodeState)) : (s.tsuChanges l).free = s.free := rfl

/-! ## takeTsuChanges -/

@[simp] theorem State.takeTsuChanges_clock (s : State) : s.takeTsuChanges.clock = s.clock := rfl
@[simp] theorem State.takeTsuChanges_pins (s : State) : s.takeTsuChanges.pins = s.pins := rfl
@[simp] theorem State.takeTsuChanges_drive (s : State) : s.takeTsuChanges.drive = (s.tsuChanges (s.waitingChanges tsuChange)).drive := rfl
@[simp] theorem State.takeTsuChanges_cl (s : State) : s.takeTsuChanges.cl = s.cl := rfl
@[simp] theorem State.takeTsuChanges_prm (s : State) : s.takeTsuChanges.prm = s.prm := rfl
@[simp] theorem State.takeTsuChanges_le (s : State) : s.takeTsuChanges.le = s.le := rfl
@[simp] theorem State.takeTsuChanges_tsu (s : State) : s.takeTsuChanges.tsu = (s.tsuChanges (s.waitingChanges tsuChange)).tsu := rfl
@[simp] theorem State.takeTsuChanges_slu (s : State) : s.takeTsuChanges.slu = s.slu := rfl
@[simp] theorem State.takeTsuChanges_bcu (s : State) : s.takeTsuChanges.bcu = s.bcu := rfl
@[simp] theorem State.takeTsuChanges_mu (s : State) : s.takeTsuChanges.mu = s.mu := rfl
@[simp] theorem State.takeTsuChanges_pvu (s : State) : s.takeTsuChanges.pvu = s.pvu := rfl
@[simp] theorem State.takeTsuChanges_nsc (s : State) : s.takeTsuChanges.nsc = s.nsc := rfl
@[simp] theorem State.takeTsuChanges_bi (s : State) : s.takeTsuChanges.bi = s.bi := rfl
@[simp] theorem State.takeTsuChanges_sr (s : State) : s.takeTsuChanges.sr = s.sr := rfl
@[simp] theorem State.takeTsuChanges_pending (s : State) : s.takeTsuChanges.pending = s.pending := rfl
@[simp] theorem State.takeTsuChanges_handed (s : State) : s.takeTsuChanges.handed = s.handed.filter (fun i => (tsuChange i).isNone) := rfl
@[simp] theorem State.takeTsuChanges_free (s : State) : s.takeTsuChanges.free = s.free := rfl

/-! ## sluChanges -/

@[simp] theorem State.sluChanges_clock (s : State) (l : List (NodeState × NodeState)) : (s.sluChanges l).clock = s.clock := rfl
@[simp] theorem State.sluChanges_pins (s : State) (l : List (NodeState × NodeState)) : (s.sluChanges l).pins = s.pins := rfl
@[simp] theorem State.sluChanges_drive (s : State) (l : List (NodeState × NodeState)) : (s.sluChanges l).drive = l.foldl (fun d q => driveChange q.1 q.2 d) s.drive := rfl
@[simp] theorem State.sluChanges_cl (s : State) (l : List (NodeState × NodeState)) : (s.sluChanges l).cl = s.cl := rfl
@[simp] theorem State.sluChanges_prm (s : State) (l : List (NodeState × NodeState)) : (s.sluChanges l).prm = s.prm := rfl
@[simp] theorem State.sluChanges_le (s : State) (l : List (NodeState × NodeState)) : (s.sluChanges l).le = s.le := rfl
@[simp] theorem State.sluChanges_tsu (s : State) (l : List (NodeState × NodeState)) : (s.sluChanges l).tsu = s.tsu := rfl
@[simp] theorem State.sluChanges_slu (s : State) (l : List (NodeState × NodeState)) : (s.sluChanges l).slu = s.slu := rfl
@[simp] theorem State.sluChanges_bcu (s : State) (l : List (NodeState × NodeState)) : (s.sluChanges l).bcu = s.bcu := rfl
@[simp] theorem State.sluChanges_mu (s : State) (l : List (NodeState × NodeState)) : (s.sluChanges l).mu = s.mu := rfl
@[simp] theorem State.sluChanges_pvu (s : State) (l : List (NodeState × NodeState)) : (s.sluChanges l).pvu = s.pvu := rfl
@[simp] theorem State.sluChanges_nsc (s : State) (l : List (NodeState × NodeState)) : (s.sluChanges l).nsc = s.nsc := rfl
@[simp] theorem State.sluChanges_bi (s : State) (l : List (NodeState × NodeState)) : (s.sluChanges l).bi = s.bi := rfl
@[simp] theorem State.sluChanges_sr (s : State) (l : List (NodeState × NodeState)) : (s.sluChanges l).sr = s.sr := rfl
@[simp] theorem State.sluChanges_pending (s : State) (l : List (NodeState × NodeState)) : (s.sluChanges l).pending = s.pending := rfl
@[simp] theorem State.sluChanges_handed (s : State) (l : List (NodeState × NodeState)) : (s.sluChanges l).handed = s.handed := rfl
@[simp] theorem State.sluChanges_free (s : State) (l : List (NodeState × NodeState)) : (s.sluChanges l).free = s.free := rfl

/-! ## takeSluChanges -/

@[simp] theorem State.takeSluChanges_clock (s : State) : s.takeSluChanges.clock = s.clock := rfl
@[simp] theorem State.takeSluChanges_pins (s : State) : s.takeSluChanges.pins = s.pins := rfl
@[simp] theorem State.takeSluChanges_drive (s : State) : s.takeSluChanges.drive = (s.sluChanges (s.waitingChanges sluChange)).drive := rfl
@[simp] theorem State.takeSluChanges_cl (s : State) : s.takeSluChanges.cl = s.cl := rfl
@[simp] theorem State.takeSluChanges_prm (s : State) : s.takeSluChanges.prm = s.prm := rfl
@[simp] theorem State.takeSluChanges_le (s : State) : s.takeSluChanges.le = s.le := rfl
@[simp] theorem State.takeSluChanges_tsu (s : State) : s.takeSluChanges.tsu = s.tsu := rfl
@[simp] theorem State.takeSluChanges_slu (s : State) : s.takeSluChanges.slu = s.slu := rfl
@[simp] theorem State.takeSluChanges_bcu (s : State) : s.takeSluChanges.bcu = s.bcu := rfl
@[simp] theorem State.takeSluChanges_mu (s : State) : s.takeSluChanges.mu = s.mu := rfl
@[simp] theorem State.takeSluChanges_pvu (s : State) : s.takeSluChanges.pvu = s.pvu := rfl
@[simp] theorem State.takeSluChanges_nsc (s : State) : s.takeSluChanges.nsc = s.nsc := rfl
@[simp] theorem State.takeSluChanges_bi (s : State) : s.takeSluChanges.bi = s.bi := rfl
@[simp] theorem State.takeSluChanges_sr (s : State) : s.takeSluChanges.sr = s.sr := rfl
@[simp] theorem State.takeSluChanges_pending (s : State) : s.takeSluChanges.pending = s.pending := rfl
@[simp] theorem State.takeSluChanges_handed (s : State) : s.takeSluChanges.handed = s.handed.filter (fun i => (sluChange i).isNone) := rfl
@[simp] theorem State.takeSluChanges_free (s : State) : s.takeSluChanges.free = s.free := rfl

/-! ## enterStuck -/

@[simp] theorem State.enterStuck_clock (s : State) : s.enterStuck.clock = s.clock := rfl
@[simp] theorem State.enterStuck_pins (s : State) : s.enterStuck.pins = s.pins := rfl
@[simp] theorem State.enterStuck_drive (s : State) : s.enterStuck.drive = s.drive := rfl
@[simp] theorem State.enterStuck_cl (s : State) : s.enterStuck.cl = s.cl := rfl
@[simp] theorem State.enterStuck_prm (s : State) : s.enterStuck.prm = s.prm := rfl
@[simp] theorem State.enterStuck_le (s : State) : s.enterStuck.le = s.le := rfl
@[simp] theorem State.enterStuck_tsu (s : State) : s.enterStuck.tsu = s.tsu := rfl
@[simp] theorem State.enterStuck_slu (s : State) : s.enterStuck.slu = s.slu := rfl
@[simp] theorem State.enterStuck_bcu (s : State) : s.enterStuck.bcu = s.bcu.toStuck := rfl
@[simp] theorem State.enterStuck_mu (s : State) : s.enterStuck.mu = s.mu := rfl
@[simp] theorem State.enterStuck_pvu (s : State) : s.enterStuck.pvu = s.pvu := rfl
@[simp] theorem State.enterStuck_nsc (s : State) : s.enterStuck.nsc = s.nsc := rfl
@[simp] theorem State.enterStuck_bi (s : State) : s.enterStuck.bi = s.bi := rfl
@[simp] theorem State.enterStuck_sr (s : State) : s.enterStuck.sr = s.sr := rfl
@[simp] theorem State.enterStuck_pending (s : State) : s.enterStuck.pending = s.pending := rfl
@[simp] theorem State.enterStuck_handed (s : State) : s.enterStuck.handed = s.handed ++ [.conditionReport .brakeStuck true] := rfl
@[simp] theorem State.enterStuck_free (s : State) : s.enterStuck.free = s.free := rfl

/-! ## Readers after a hand-off -/

@[simp] theorem State.hand_role (s : State) (l : List Instr) : (s.hand l).role = s.role := rfl
@[simp] theorem State.hand_hasBcu (s : State) (l : List Instr) : (s.hand l).hasBcu = s.hasBcu := rfl
@[simp] theorem State.hand_roleOf (s : State) (l : List Instr) (a : Nat) : (s.hand l).roleOf a = s.roleOf a := rfl
@[simp] theorem State.hand_addrOf (s : State) (l : List Instr) (r : Role) : (s.hand l).addrOf r = s.addrOf r := rfl
@[simp] theorem State.hand_partner (s : State) (l : List Instr) : (s.hand l).partner = s.partner := rfl
@[simp] theorem State.hand_peers (s : State) (l : List Instr) : (s.hand l).peers = s.peers := rfl
@[simp] theorem State.hand_row (s : State) (l : List Instr) (a : Nat) : (s.hand l).row a = s.row a := rfl
@[simp] theorem State.hand_sRow (s : State) (l : List Instr) (a : Nat) : (s.hand l).sRow a = s.sRow a := rfl
@[simp] theorem State.hand_contribAt (s : State) (l : List Instr) (a : Nat) : (s.hand l).contribAt a = s.contribAt a := rfl
@[simp] theorem State.hand_contribOf (s : State) (l : List Instr) (r : Role) : (s.hand l).contribOf r = s.contribOf r := rfl
@[simp] theorem State.hand_partnerContrib (s : State) (l : List Instr) : (s.hand l).partnerContrib = s.partnerContrib := rfl
@[simp] theorem State.hand_measured (s : State) (l : List Instr) : (s.hand l).measured = s.measured := rfl
@[simp] theorem State.hand_measuredClamped (s : State) (l : List Instr) : (s.hand l).measuredClamped = s.measuredClamped := rfl
@[simp] theorem State.hand_topNotices (s : State) (l : List Instr) (t : Option TopView) : (s.hand l).topNotices t = s.topNotices t := rfl
@[simp] theorem State.hand_nodeNotices (s : State) (l : List Instr) (o n : NodeState) : (s.hand l).nodeNotices o n = s.nodeNotices o n := rfl
@[simp] theorem State.hand_speedNotices (s : State) (l : List Instr) (v : Nat) (st : SpeedStatus) : (s.hand l).speedNotices v st = s.speedNotices v st := rfl
@[simp] theorem State.hand_channel1 (s : State) (l : List Instr) : (s.hand l).channel1 = s.channel1 := rfl
@[simp] theorem State.hand_channel2 (s : State) (l : List Instr) : (s.hand l).channel2 = s.channel2 := rfl
@[simp] theorem State.hand_candidates (s : State) (l : List Instr) : (s.hand l).candidates = s.candidates := rfl
@[simp] theorem State.hand_riderFresh (s : State) (l : List Instr) : (s.hand l).riderFresh = s.riderFresh := rfl
@[simp] theorem State.hand_partnerFlag (s : State) (l : List Instr) : (s.hand l).partnerFlag = s.partnerFlag := rfl
@[simp] theorem State.hand_ownDemand (s : State) (l : List Instr) : (s.hand l).ownDemand = s.ownDemand := rfl
@[simp] theorem State.hand_dormantRole (s : State) (l : List Instr) : (s.hand l).dormantRole = s.dormantRole := rfl
@[simp] theorem State.hand_joinTest (s : State) (l : List Instr) : (s.hand l).joinTest = s.joinTest := rfl
@[simp] theorem State.hand_movingSeen (s : State) (l : List Instr) : (s.hand l).movingSeen = s.movingSeen := rfl
@[simp] theorem State.hand_sourcePresent (s : State) (l : List Instr) (c : Condition) : (s.hand l).sourcePresent c = s.sourcePresent c := rfl
@[simp] theorem State.hand_freshOf {α : Type} (s : State) (l : List Instr) (a : Nat) (rec : Option (α × Stamp)) :
    (s.hand l).freshOf a rec = s.freshOf a rec := rfl

@[simp] theorem State.taken_role (s : State) (i : Instr) : (s.taken i).role = s.role := rfl
@[simp] theorem State.taken_hasBcu (s : State) (i : Instr) : (s.taken i).hasBcu = s.hasBcu := rfl
@[simp] theorem State.taken_roleOf (s : State) (i : Instr) (a : Nat) : (s.taken i).roleOf a = s.roleOf a := rfl
@[simp] theorem State.taken_addrOf (s : State) (i : Instr) (r : Role) : (s.taken i).addrOf r = s.addrOf r := rfl
@[simp] theorem State.taken_partner (s : State) (i : Instr) : (s.taken i).partner = s.partner := rfl
@[simp] theorem State.taken_peers (s : State) (i : Instr) : (s.taken i).peers = s.peers := rfl
@[simp] theorem State.taken_row (s : State) (i : Instr) (a : Nat) : (s.taken i).row a = s.row a := rfl
@[simp] theorem State.taken_sRow (s : State) (i : Instr) (a : Nat) : (s.taken i).sRow a = s.sRow a := rfl
@[simp] theorem State.taken_contribAt (s : State) (i : Instr) (a : Nat) : (s.taken i).contribAt a = s.contribAt a := rfl
@[simp] theorem State.taken_contribOf (s : State) (i : Instr) (r : Role) : (s.taken i).contribOf r = s.contribOf r := rfl
@[simp] theorem State.taken_partnerContrib (s : State) (i : Instr) : (s.taken i).partnerContrib = s.partnerContrib := rfl
@[simp] theorem State.taken_measured (s : State) (i : Instr) : (s.taken i).measured = s.measured := rfl
@[simp] theorem State.taken_measuredClamped (s : State) (i : Instr) : (s.taken i).measuredClamped = s.measuredClamped := rfl
@[simp] theorem State.taken_topNotices (s : State) (i : Instr) (t : Option TopView) : (s.taken i).topNotices t = s.topNotices t := rfl
@[simp] theorem State.taken_nodeNotices (s : State) (i : Instr) (o n : NodeState) : (s.taken i).nodeNotices o n = s.nodeNotices o n := rfl
@[simp] theorem State.taken_speedNotices (s : State) (i : Instr) (v : Nat) (st : SpeedStatus) : (s.taken i).speedNotices v st = s.speedNotices v st := rfl
@[simp] theorem State.taken_channel1 (s : State) (i : Instr) : (s.taken i).channel1 = s.channel1 := rfl
@[simp] theorem State.taken_channel2 (s : State) (i : Instr) : (s.taken i).channel2 = s.channel2 := rfl
@[simp] theorem State.taken_candidates (s : State) (i : Instr) : (s.taken i).candidates = s.candidates := rfl
@[simp] theorem State.taken_riderFresh (s : State) (i : Instr) : (s.taken i).riderFresh = s.riderFresh := rfl
@[simp] theorem State.taken_partnerFlag (s : State) (i : Instr) : (s.taken i).partnerFlag = s.partnerFlag := rfl
@[simp] theorem State.taken_ownDemand (s : State) (i : Instr) : (s.taken i).ownDemand = s.ownDemand := rfl
@[simp] theorem State.taken_dormantRole (s : State) (i : Instr) : (s.taken i).dormantRole = s.dormantRole := rfl
@[simp] theorem State.taken_joinTest (s : State) (i : Instr) : (s.taken i).joinTest = s.joinTest := rfl
@[simp] theorem State.taken_movingSeen (s : State) (i : Instr) : (s.taken i).movingSeen = s.movingSeen := rfl
@[simp] theorem State.taken_sourcePresent (s : State) (i : Instr) (c : Condition) : (s.taken i).sourcePresent c = s.sourcePresent c := rfl
@[simp] theorem State.taken_freshOf {α : Type} (s : State) (i : Instr) (a : Nat) (rec : Option (α × Stamp)) :
    (s.taken i).freshOf a rec = s.freshOf a rec := rfl

/-- What the NSC's change of state does to each of its own fields. -/
@[simp] theorem Nsc.enter_node (n : Nsc) (x : NodeState) (lean : Option Int) :
    (n.enter x lean).node = x := rfl
@[simp] theorem Nsc.enter_present (n : Nsc) (x : NodeState) (lean : Option Int) :
    (n.enter x lean).present = n.present := rfl
@[simp] theorem Nsc.enter_latches (n : Nsc) (x : NodeState) (lean : Option Int) :
    (n.enter x lean).latches = n.latches := rfl
@[simp] theorem Nsc.enter_lastHalt (n : Nsc) (x : NodeState) (lean : Option Int) :
    (n.enter x lean).lastHalt = n.lastHalt := rfl
@[simp] theorem Nsc.enter_rejoin (n : Nsc) (x : NodeState) (lean : Option Int) :
    (n.enter x lean).rejoin = none := rfl
@[simp] theorem Nsc.enter_speed (n : Nsc) (x : NodeState) (lean : Option Int) :
    (n.enter x lean).speed = n.speed := rfl
@[simp] theorem Nsc.enter_topCopy (n : Nsc) (x : NodeState) (lean : Option Int) :
    (n.enter x lean).topCopy = n.topCopy := rfl
@[simp] theorem Nsc.enter_flt (n : Nsc) (x : NodeState) (lean : Option Int) :
    (n.enter x lean).flt = x.faulted := rfl
@[simp] theorem Nsc.enter_joinCount (n : Nsc) (x : NodeState) (lean : Option Int) :
    (n.enter x lean).joinCount = if x = .listen ∨ x = .active then 0 else n.joinCount := rfl
@[simp] theorem Nsc.enter_clearRun (n : Nsc) (x : NodeState) (lean : Option Int) :
    (n.enter x lean).clearRun = if x = .active ∨ x = .degraded then 0 else n.clearRun := rfl
@[simp] theorem Nsc.enter_dormantDwell (n : Nsc) (x : NodeState) (lean : Option Int) :
    (n.enter x lean).dormantDwell = if x = .active then n.dormantDwell else none := rfl
@[simp] theorem Nsc.enter_sendCount (n : Nsc) (x : NodeState) (lean : Option Int) :
    (n.enter x lean).sendCount = if x = .dormant then Config.dormantSend - 1 else n.sendCount := rfl
@[simp] theorem Nsc.enter_entryLean (n : Nsc) (x : NodeState) (lean : Option Int) :
    (n.enter x lean).entryLean = if x = .dormant then lean else n.entryLean := rfl

end Sys2Proof.Machine
end

