-- ==== Sys2Proof/Laws/Stack.lean ====
section
/-! SUPPORT. The override stack: what a change of it does to the state, and what each operation on the list of entries keeps
(R26, R33 to R36, R40). -/

namespace Sys2Proof.Machine

/-! ## The list -/

/-- The entries that surface are those after the marked ones on top. -/
theorem surface_eq_dropWhile (l : List Entry) : surface l = l.dropWhile (fun e => e.pending) := by
  induction l with
  | nil => rfl
  | cons e l ih => by_cases h : e.pending = true <;> simp [surface, h, ih]

/-- A part of a stack, in order, whose top is unmarked is sound when the stack is. -/
theorem soundStack_of_sublist {l m : List Entry} (h : soundStack l) (hs : m.Sublist l)
    (ht : ∀ e ∈ m.head?, e.pending = false) : soundStack m :=
  ⟨hs.length_le.trans h.1, h.2.1.sublist (hs.map _), ht, fun e he => h.2.2.2 e (hs.subset he)⟩

/-- The top that surfaces is unmarked. -/
theorem surface_head (l : List Entry) : ∀ e ∈ (surface l).head?, e.pending = false := by
  induction l with
  | nil => simp [surface]
  | cons e l ih =>
    by_cases h : e.pending = true
    · simpa only [surface, h, if_true] using ih
    · simp [surface, h]

/-- What surfaces is a part of the list. -/
theorem surface_sublist (l : List Entry) : (surface l).Sublist l := by
  rw [surface_eq_dropWhile]; exact List.dropWhile_sublist _

/-- A change of entries that keeps tags, soundness and the top's mark keeps a stack sound. -/
theorem soundStack_map {l : List Entry} (h : soundStack l) (f : Entry → Entry) (ht : ∀ e, (f e).tag = e.tag)
    (hs : ∀ e ∈ l, (f e).sound) (hp : ∀ e ∈ l.head?, (f e).pending = false) : soundStack (l.map f) := by
  refine ⟨by simpa using h.1, ?_, ?_, ?_⟩
  · rw [List.map_map]
    have : (fun e : Entry => e.tag) ∘ f = fun e => e.tag := funext ht
    rw [this]; exact h.2.1
  · cases l <;> simp_all
  · intro e he
    obtain ⟨x, hx, rfl⟩ := List.mem_map.1 he
    exact hs x hx

/-- Marking an entry keeps it sound. -/
theorem Entry.sound_mark {e : Entry} (h : e.sound) (b : Bool) : ({ e with pending := b } : Entry).sound := h

/-- An entry of a new tag put on a stack with room keeps it sound. -/
theorem soundStack_push {l : List Entry} {e : Entry} (h : soundStack l) (hl : l.length < 4)
    (ht : ∀ x ∈ l, x.tag ≠ e.tag) (he : e.sound) (hp : e.pending = false) : soundStack (e :: l) := by
  refine ⟨by simpa using hl, ?_, by simp [hp], ?_⟩
  · simp only [List.map_cons, List.nodup_cons]
    refine ⟨?_, h.2.1⟩
    rintro hm
    obtain ⟨x, hx, e1⟩ := List.mem_map.1 hm
    exact ht x hx e1
  · intro x hx
    rcases List.mem_cons.1 hx with rfl | hx
    · exact he
    · exact h.2.2.2 x hx

/-- The advance of the top keeps a stack sound. -/
theorem soundStack_advanceTop {l : List Entry} (h : soundStack l) : soundStack (advanceTop l) := by
  cases l with
  | nil => exact h
  | cons e l =>
    have he := h.2.2.2 e (by simp)
    obtain ⟨hk, hc⟩ := he
    have hp : e.pending = false := h.2.2.1 e (by simp)
    have hset : ∀ c : Count, (match c with | .finite n => 1 ≤ n ∧ n ≤ 65535 | .forever h => h ≤ 65535) →
        soundStack ({ e with count := c } :: l) := by
      intro c hc'
      refine ⟨by simpa using h.1, by simpa using h.2.1, by simp [hp], ?_⟩
      intro x hx
      rcases List.mem_cons.1 hx with rfl | hx
      · exact ⟨hk, hc'⟩
      · exact h.2.2.2 x (by simp [hx])
    simp only [advanceTop]
    cases hcnt : e.count with
    | finite n =>
      rw [hcnt] at hc
      by_cases hn : n ≤ 1
      · simp only [hn, if_true]
        exact soundStack_of_sublist h ((surface_sublist l).trans (List.sublist_cons_self e l)) (surface_head l)
      · simp only [hn, if_false]
        exact hset _ (by simp only at hc ⊢; omega)
    | forever n => exact hset _ (by simp only; omega)

/-- A RELEASE keeps a stack sound. -/
theorem soundStack_releaseTag {l : List Entry} (tag : Byte) (h : soundStack l) : soundStack (releaseTag tag l) := by
  cases l with
  | nil => exact h
  | cons e l =>
    simp only [releaseTag]
    split
    · exact h
    · split
      · exact soundStack_of_sublist h ((surface_sublist l).trans (List.sublist_cons_self e l)) (surface_head l)
      · rename_i _ hne
        have := soundStack_map h (fun x => if x.tag = tag then { x with pending := true } else x)
          (fun x => by split <;> rfl)
          (fun x hx => by split; exacts [h.2.2.2 x hx, h.2.2.2 x hx])
          (fun x hx => by simp at hx; subst hx; simp [hne]; exact h.2.2.1 e (by simp))
        simpa [hne] using this

/-- A mark put on the entries that a motion releases keeps their tags. -/
theorem markMoving_tags (l : List Entry) : (markMoving l).map (fun e => e.tag) = l.map (fun e => e.tag) := by
  induction l with
  | nil => rfl
  | cons e l ih =>
    simp only [markMoving, List.map_cons] at ih ⊢
    rw [ih]; congr 1; split <;> rfl

/-- The release by motion below a popped entry leaves the entries of a tail of the list, those it releases marked. -/
theorem motionSurface_eq (l : List Entry) :
    motionSurface l = match l.dropWhile (fun e => e.movesOff || e.pending) with | [] => [] | e :: m => e :: markMoving m := by
  induction l with
  | nil => rfl
  | cons e l ih => by_cases h : (e.movesOff || e.pending) = true <;> simp [motionSurface, h, ih]

/-- Marked below an unmarked top, a stack stays sound. -/
theorem soundStack_markBelow {e : Entry} {l : List Entry} (h : soundStack (e :: l)) : soundStack (e :: markMoving l) := by
  refine ⟨by simpa [markMoving] using h.1, by simpa [markMoving_tags] using h.2.1, by simpa using h.2.2.1, ?_⟩
  intro x hx
  rcases List.mem_cons.1 hx with rfl | hx
  · exact h.2.2.2 x (by simp)
  · obtain ⟨y, hy, rfl⟩ := List.mem_map.1 hx
    have := h.2.2.2 y (by simp [hy])
    split
    · exact Entry.sound_mark this true
    · exact this

/-- A release by motion keeps a stack sound. -/
theorem soundStack_motionRelease {l : List Entry} (h : soundStack l) : soundStack (motionRelease l) := by
  cases l with
  | nil => exact h
  | cons e l =>
    simp only [motionRelease]
    split
    · rw [motionSurface_eq]
      have hs := (List.dropWhile_sublist (l := l) (fun e => e.movesOff || e.pending)).trans (List.sublist_cons_self e l)
      have hh : ∀ x ∈ (l.dropWhile (fun e => e.movesOff || e.pending)).head?, (x.movesOff || x.pending) = false := by
        intro x hx
        have := List.head?_dropWhile_not (fun e : Entry => e.movesOff || e.pending) l
        rw [Option.mem_def.1 hx] at this
        simpa using this
      split
      · exact ⟨by simp, by simp, by simp, by simp⟩
      · rename_i y m hm
        rw [hm] at hs hh
        have hy := hh y (by simp)
        simp at hy
        exact soundStack_markBelow (soundStack_of_sublist h hs (by simp [hy.2]))
    · exact soundStack_markBelow h

/-- A refresh keeps a stack sound where the new count is one the manual gives. -/
theorem soundStack_setCount {l : List Entry} (tag : Byte) (c : Count) (h : soundStack l)
    (hc : match c with | .finite n => 1 ≤ n ∧ n ≤ 65535 | .forever h => h ≤ 65535) : soundStack (setCount tag c l) :=
  soundStack_map h (fun e => if e.tag = tag then { e with count := c } else e)
    (fun e => by split <;> rfl)
    (fun e he => by
      have := h.2.2.2 e he
      split
      · exact ⟨this.1, hc⟩
      · exact this)
    (fun e he => by have := h.2.2.1 e he; split <;> exact this)

/-! ## A change of the stack -/

/-- A change of the stack changes the stack, the dwell and the hand-offs, and nothing else. -/
theorem State.setStack_eq (s : State) (new : List Entry) :
    s.setStack new = { s with
      le := { s.le with
        stack := new
        dwell := if new = s.le.stack then s.le.dwell
          else Timer.keep s.le.dwell (standstill s.prm s.le.speed.value s.le.speed.status && dwellState s.nsc.node &&
            !(new.any (fun e => e.kind == .park || e.tag == 240))) }
      handed := s.handed ++ if topTag new = topTag s.le.stack then [] else s.topNotices (topView new) } := by
  unfold State.setStack
  split
  · rename_i h; subst h; simp
  · rename_i h
    split <;> simp_all [State.evalDwell, State.hand, State.dwellHolds, State.topNotices, State.hasBcu, State.role]

/-- The new stack stands. -/
@[simp] theorem State.setStack_stack (s : State) (new : List Entry) : (s.setStack new).le.stack = new := by
  rw [State.setStack_eq]

/-! ## The dwell (R39) -/

/-- A timer kept runs exactly when it is to run, on from where it stood or from 0. -/
theorem Timer.keep_spec (t : Timer) (run : Bool) :
    (Timer.keep t run).isSome = run ∧ ∀ n, Timer.keep t run = some n → n = t.getD 0 := by
  cases run <;> simp [Timer.keep]

/-- The three conditions of the dwell (R39). -/
theorem State.dwellHolds_iff (s : State) (v : Nat) (st : SpeedStatus) : s.dwellHolds v st = true ↔
    (st.heard = true ∧ v < s.prm.vStand) ∧ (s.nsc.node = .active ∨ s.nsc.node = .degraded ∨ s.nsc.node = .dormant) ∧
      ∀ e ∈ s.le.stack, e.kind ≠ .park ∧ e.tag ≠ 240 := by
  have h : dwellState s.nsc.node = true ↔ s.nsc.node = .active ∨ s.nsc.node = .degraded ∨ s.nsc.node = .dormant := by
    cases s.nsc.node <;> simp [dwellState]
  simp only [State.dwellHolds, standstill, Bool.and_eq_true, decide_eq_true_eq, h, and_assoc]
  simp [List.any_eq_false]

/-- A change of the stack leaves the dwell running as R39 says. -/
theorem State.setStack_dwellRuns (s : State) (new : List Entry) : dwellRuns s (s.setStack new) := by
  have hk := Timer.keep_spec s.le.dwell (({ s with le := { s.le with stack := new } } : State).dwellHolds s.le.speed.value
    s.le.speed.status)
  have hh := State.dwellHolds_iff { s with le := { s.le with stack := new } } s.le.speed.value s.le.speed.status
  rw [State.setStack_eq]
  refine ⟨fun e => if_pos e, fun e => ?_⟩
  simp only [if_neg e]
  exact ⟨by rw [← hh, ← hk.1]; rfl, hk.2⟩

end Sys2Proof.Machine
end

