-- ==== Sys2Proof/Laws/LeanLaw.lean ====
section
/-! SUPPORT. The lean law: the limits, the two checks of an expiry, and the period expiry as one update of the state (R5, R14 to
R17, R23, R42). -/

namespace Sys2Proof.Machine

/-- A clamped quantity lies within the limit. -/
theorem clampMag_natAbs (m : Nat) (x : Int) : (clampMag m x).natAbs ≤ m := by unfold clampMag; omega

/-- A quantity within the limit is not changed. -/
theorem clampMag_of_le {m x : Int} (h : (x.natAbs : Int) ≤ m) : clampMag m x = x := by unfold clampMag; omega

/-- A clamp never raises a magnitude. -/
theorem clampMag_natAbs_le {m : Int} (x : Int) (h : 0 ≤ m) : (clampMag m x).natAbs ≤ x.natAbs := by
  unfold clampMag; omega

/-- The over-lean check changes its three items of the LE and the hand-offs, and nothing else. -/
theorem State.overLean_eq (s : State) : s.overLean = { s with
    le := { s.le with
      overCount := s.overLean.le.overCount
      overReported := s.overLean.le.overReported
      countedStamp := s.overLean.le.countedStamp }
    handed := s.overLean.handed } := by
  unfold State.overLean
  dsimp only
  split
  · split
    · rfl
    · unfold State.countOverLean
      dsimp only
      repeat' split
      all_goals rfl
  · rfl

/-- A counted reading reports exactly a change of the flag, behind what waits. -/
theorem State.countOverLean_handed (s : State) (phi : Int) (st : Stamp) : (s.countOverLean phi st).handed = s.handed ++
    if (s.countOverLean phi st).le.overReported = s.le.overReported then []
    else [.conditionReport .overlean (s.countOverLean phi st).le.overReported] := by
  unfold State.countOverLean
  dsimp only
  by_cases h : (s.prm.phiStop : Int) < phi.natAbs
  · simp only [if_pos h]
    by_cases n : min (s.le.overCount + 1) 3 = 3 <;> cases r : s.le.overReported <;> simp [n, State.hand]
  · simp only [if_neg h]
    cases r : s.le.overReported <;> simp [State.hand]

/-- The over-lean check reports exactly a change of its flag, behind what waits. -/
theorem State.overLean_handed (s : State) : s.overLean.handed = s.handed ++
    if s.overLean.le.overReported = s.le.overReported then [] else [.conditionReport .overlean s.overLean.le.overReported] := by
  have h : s.overLean = s ∨ ∃ phi st, s.overLean = s.countOverLean phi st := by
    unfold State.overLean
    dsimp only
    split
    · split
      · exact .inl rfl
      · exact .inr ⟨_, _, rfl⟩
    · exact .inl rfl
  rcases h with h | ⟨phi, st, h⟩ <;> rw [h]
  · simp
  · exact State.countOverLean_handed s phi st

/-- The over-lean counter stays within 3. -/
theorem State.overLean_overCount (s : State) (h : s.le.overCount ≤ 3) : s.overLean.le.overCount ≤ 3 := by
  unfold State.overLean
  dsimp only
  split
  · split
    · exact h
    · unfold State.countOverLean
      dsimp only
      repeat' split
      all_goals simp [State.hand]
  · exact h

/-- The comparison of an expiry changes the mismatch counter and the hand-offs, and nothing else. -/
theorem State.compareStacks_eq (s : State) (own : Nat × Byte) : s.compareStacks own = { s with
    le := { s.le with mismatch := if s.nsc.node.running && s.summaryDiffers own then min (s.le.mismatch + 1) 50 else 0 }
    handed := (s.compareStacks own).handed } := by
  unfold State.compareStacks
  dsimp only
  repeat' split
  all_goals simp_all [State.setMismatch, State.hand, Config.mismatchRun]

/-- The report of the comparison: at the 50th difference in a row, at an agreement after it, and outside ACTIVE and DEGRADED at
every expiry (R42, log entry 22). -/
theorem State.compareStacks_handed (s : State) (own : Nat × Byte) : (s.compareStacks own).handed = s.handed ++
    if s.nsc.node.running = true then
      if s.summaryDiffers own = true then
        if s.le.mismatch = 49 then [.conditionReport .overrideMismatch true] else []
      else if s.le.mismatch = 50 then [.conditionReport .overrideMismatch false] else []
    else [.conditionReport .overrideMismatch false] := by
  have h : (min (s.le.mismatch + 1) 50 = 50 ∧ s.le.mismatch < 50) ↔ s.le.mismatch = 49 := by omega
  simp only [State.compareStacks, Config.mismatchRun, h]
  (repeat' split) <;> simp_all [State.hand, State.setMismatch]

/-- What a period expiry does to the LE and to nothing else, its hand-offs apart (R17). -/
theorem State.periodExpiry_eq (s : State) : s.periodExpiry = { s with
    le := { s.periodExpiry.le with
      phiT := s.leanTarget
      omegaT := s.rateTarget
      prev := s.leanTarget
      lastRun := some s.nsc.node
      stack := advanceTop s.le.stack
      lastRefusal := s.le.lastRefusal
      periodTimer := some 0 }
    handed := s.periodExpiry.handed } := by
  unfold State.periodExpiry
  dsimp only
  rw [State.compareStacks_eq, State.overLean_eq, State.setStack_eq]
  rfl

/-- What a period expiry hands on, in its order (R8, R17, R24, R36, R42, R142). -/
theorem State.periodExpiry_handed (s : State) : s.periodExpiry.handed = s.handed ++ [.handlebarRampStep] ++
    (if topTag (advanceTop s.le.stack) = topTag s.le.stack then [] else s.topNotices (topView (advanceTop s.le.stack))) ++
    [s.recordNotice (targetRecord s.leanTarget s.rateTarget (advanceTop s.le.stack) s.le.lastRefusal)] ++
    (if s.periodExpiry.le.overReported = s.le.overReported then []
     else [.conditionReport .overlean s.periodExpiry.le.overReported]) ++
    (if s.nsc.node.running = true then
       if s.summaryDiffers ((advanceTop s.le.stack).length, (topTag (advanceTop s.le.stack)).getD 0) = true then
         if s.le.mismatch = 49 then [.conditionReport .overrideMismatch true] else []
       else if s.le.mismatch = 50 then [.conditionReport .overrideMismatch false] else []
     else [.conditionReport .overrideMismatch false]) ++ [.periodNotice] := by
  obtain ⟨d, ha⟩ : ∃ d, (s.hand [.handlebarRampStep]).setStack (advanceTop s.le.stack) = { s with
      le := { s.le with stack := advanceTop s.le.stack, dwell := d }
      handed := s.handed ++ [.handlebarRampStep] ++
        if topTag (advanceTop s.le.stack) = topTag s.le.stack then [] else s.topNotices (topView (advanceTop s.le.stack)) } :=
    ⟨_, State.setStack_eq _ _⟩
  have flag : ∀ (u : State) own, (u.compareStacks own).le.overReported = u.le.overReported := fun u own => by
    rw [State.compareStacks_eq]
  have kept : ∀ u : State, u.overLean.nsc = u.nsc ∧ u.overLean.le.mismatch = u.le.mismatch ∧
      u.overLean.summaryDiffers = u.summaryDiffers := fun u => by rw [State.overLean_eq]; exact ⟨rfl, rfl, rfl⟩
  unfold State.periodExpiry
  simp only [ha]
  simp only [State.hand, State.compareStacks_handed, flag, State.overLean_handed, (kept _).1, (kept _).2.1, (kept _).2.2]
  rfl

/-- A period expiry leaves the dwell as the advance of the stack does, and keeps the copy of the speed (R39). -/
theorem State.periodExpiry_dwell (s : State) :
    s.periodExpiry.le.dwell = (s.setStack (advanceTop s.le.stack)).le.dwell ∧ s.periodExpiry.le.speed = s.le.speed := by
  have e : ((s.hand [.handlebarRampStep]).setStack (advanceTop s.le.stack)).le =
      (s.setStack (advanceTop s.le.stack)).le := by
    rw [State.setStack_eq, State.setStack_eq]
    rfl
  have d := congrArg Le.dwell e
  have v := congrArg Le.speed e
  rw [State.setStack_eq s] at v
  unfold State.periodExpiry
  dsimp only
  rw [State.compareStacks_eq, State.overLean_eq]
  exact ⟨d, v⟩

end Sys2Proof.Machine
end

