-- ==== Sys2Proof/Laws/Arrival.lean ====
section
/-! SUPPORT. An arrival at the TSU or the SLU: the fills of the transmit slots and of the own row, and the whole of the rest of
the state, which the arrival leaves (R45, R59, R83, R95, R122, R151, R166). -/

namespace Sys2Proof.Machine

/-! ## Fills -/

/-- A fill changes the bus interface and nothing else. -/
theorem State.fill_eq (s : State) (k : FrameKind) (p : List Byte) : s.fill k p = { s with bi := (s.fill k p).bi } := by
  unfold State.fill; split <;> rfl

/-- A fill while the transmitter is on: the slot takes the frame, and an IDLE transmitter goes to WAIT_GAP. -/
theorem State.fill_bi (s : State) (k : FrameKind) (p : List Byte) (h : s.bi.tx ≠ .off) :
    (s.fill k p).bi = { s.bi with slots := s.bi.slots.put k (some ⟨p, 0⟩),
                                  tx := if s.bi.tx = .idle then .waitGap else s.bi.tx } := by
  unfold State.fill; rw [if_neg h]

/-- A row other than the one replaced is as it was. -/
theorem State.row_setRow_ne (s : State) {a b : Nat} (r : Row) (h : b ≠ a) : (s.setRow a r).row b = s.row b := by
  simp [State.row, State.setRow, Ne.symm h]

/-- The row replaced, at a station address. -/
theorem State.row_setRow_self (s : State) {a : Nat} (r : Row) (h : a < 15) : (s.setRow a r).row a = r := by
  simp [State.row, State.setRow, h]

/-- The last step of an arrival changes the send count, the bus interface, the own row and the free-value number, and nothing
else. -/
theorem State.contribStep_eq (s : State) (c : Contrib) : s.contribStep c = { s with
    pvu := { s.pvu with table := (s.contribStep c).pvu.table }
    nsc := { s.nsc with sendCount := (s.contribStep c).nsc.sendCount }
    bi := (s.contribStep c).bi
    free := (s.contribStep c).free } := by
  unfold State.contribStep State.admitFill State.fillContrib
  dsimp only
  rw [State.fill_eq]
  split <;> split <;> rfl

/-! ## The changes taken before an arrival (R64) -/

/-- Taking a hand-off that is no node-state change of a unit leaves the unit's waiting changes. -/
theorem State.waitingChanges_taken (s : State) (f : Instr → Option (NodeState × NodeState)) (i : Instr) (h : f i = none) :
    (s.taken i).waitingChanges f = s.waitingChanges f := by
  unfold State.waitingChanges State.taken
  dsimp only
  induction s.handed with
  | nil => rfl
  | cons j l ih =>
    by_cases e : j = i
    · subst e; simp [h]
    · rw [List.erase_cons_tail (by simpa using e), List.filterMap_cons, List.filterMap_cons, ih]

/-- The changes that the TSU takes change the ramp, the drive and the hand-offs, and nothing else. -/
theorem State.takeTsuChanges_eq (s : State) : s.takeTsuChanges = { s with
    tsu := { s.tsu with ramp := s.takeTsuChanges.tsu.ramp }, drive := s.takeTsuChanges.drive
    handed := s.handed.filter (fun i => (tsuChange i).isNone) } := rfl

/-- With no change waiting for the TSU nothing is taken. -/
theorem State.takeTsuChanges_none (s : State) (h : ∀ i ∈ s.handed, tsuChange i = none) : s.takeTsuChanges = s := by
  have e : s.handed.filterMap tsuChange = [] := List.filterMap_eq_nil_iff.mpr h
  have g : s.handed.filter (fun i => (tsuChange i).isNone) = s.handed :=
    List.filter_eq_self.mpr (fun i hi => by rw [h i hi]; rfl)
  unfold State.takeTsuChanges State.waitingChanges
  rw [e, g]
  rfl

/-- The changes that the SLU takes change the drive and the hand-offs, and nothing else. -/
theorem State.takeSluChanges_eq (s : State) : s.takeSluChanges = { s with
    drive := s.takeSluChanges.drive, handed := s.handed.filter (fun i => (sluChange i).isNone) } := rfl

/-- With no change waiting for the SLU nothing is taken. -/
theorem State.takeSluChanges_none (s : State) (h : ∀ i ∈ s.handed, sluChange i = none) : s.takeSluChanges = s := by
  have e : s.handed.filterMap sluChange = [] := List.filterMap_eq_nil_iff.mpr h
  have g : s.handed.filter (fun i => (sluChange i).isNone) = s.handed :=
    List.filter_eq_self.mpr (fun i hi => by rw [h i hi]; rfl)
  unfold State.takeSluChanges State.waitingChanges
  rw [e, g]
  rfl

/-! ## The arrivals -/

/-- A node-state code is its own node state's. -/
theorem nodeCode_inj {a b : NodeState} (h : nodeCode a = nodeCode b) : a = b := by
  cases a <;> cases b <;> first | rfl | exact absurd h (by decide)

/-- The demand lies within its clamp. -/
theorem State.demand_natAbs (s : State) (r : TargetRecord) : (s.demand r).natAbs ≤ s.prm.tauMax := clampMag_natAbs _ _

/-- An arrival at the TSU: the TSU of its steps, the drive, and what the last step does; every other block stays. -/
theorem State.tsuArrival_eq (s : State) (r : TargetRecord) : s.tsuArrival r = { s with
    tsu := (s.tsuStep r).1
    drive := s.driveOf (dutyOf (s.tsuStep r).1.tauO s.prm.tRated)
    pvu := { s.pvu with table := (s.tsuArrival r).pvu.table }
    nsc := { s.nsc with sendCount := (s.tsuArrival r).nsc.sendCount }
    bi := (s.tsuArrival r).bi
    handed := s.handed ++ (s.tsuStep r).2.map (fun q => .conditionReport q.1 q.2)
    free := (s.tsuArrival r).free } := by
  unfold State.tsuArrival
  dsimp only
  rw [State.contribStep_eq]
  rfl

/-- An arrival at the SLU: the SLU of its steps, the drive, and what the last step does; every other block stays. -/
theorem State.sluArrival_eq (s : State) (r : TargetRecord) : s.sluArrival r = { s with
    slu := (s.sluStep r).1
    drive := s.driveOf (dutyOf (s.sluStep r).1.tauS s.prm.tauSMax)
    pvu := { s.pvu with table := (s.sluArrival r).pvu.table }
    nsc := { s.nsc with sendCount := (s.sluArrival r).nsc.sendCount }
    bi := (s.sluArrival r).bi
    handed := s.handed ++ (s.sluStep r).2.map (fun q => .conditionReport q.1 q.2)
    free := (s.sluArrival r).free } := by
  unfold State.sluArrival
  dsimp only
  rw [State.contribStep_eq]
  rfl

/-- A quotient to the nearest lies within half a divisor of the dividend. -/
theorem nearestDiv_near (a b : Int) (hb : 0 < b) : (2 * (a - nearestDiv a b * b)).natAbs ≤ b.natAbs := by
  have key : ∀ x : Int, 0 ≤ x → -b ≤ 2 * (x - (2 * x + b) / (2 * b) * b) ∧ 2 * (x - (2 * x + b) / (2 * b) * b) < b := by
    intro x _
    have h1 := Int.emod_add_mul_ediv (2 * x + b) (2 * b)
    have h2 := Int.emod_nonneg (2 * x + b) (b := 2 * b) (by omega)
    have h3 := Int.emod_lt_of_pos (2 * x + b) (b := 2 * b) (by omega)
    have e : 2 * ((2 * x + b) / (2 * b) * b) = 2 * b * ((2 * x + b) / (2 * b)) := by ring
    omega
  unfold nearestDiv
  split
  · have := key a (by assumption)
    omega
  · have h := key (-a) (by omega)
    have e : -((2 * -a + b) / (2 * b)) * b = -((2 * -a + b) / (2 * b) * b) := by ring
    rw [e]
    omega

end Sys2Proof.Machine
end

