-- ==== Sys2Proof/Laws/PeerView.lean ====
section
/-! SUPPORT. The peer view: what each of its operations changes in the state, and the sorting under the consensus speed (R119,
R121, R123, R130 to R135). -/

namespace Sys2Proof.Machine

/-! ## Sorting -/

/-- A value put in its place is a permutation of the value before the list. -/
theorem insertSorted_perm (x : Nat) (l : List Nat) : (insertSorted x l).Perm (x :: l) := by
  induction l with
  | nil => exact List.Perm.refl _
  | cons y l ih =>
    simp only [insertSorted]
    split
    · exact List.Perm.refl _
    · exact (ih.cons y).trans (List.Perm.swap x y l)

/-- A value put in its place in a sorted list leaves it sorted. -/
theorem insertSorted_pairwise (x : Nat) (l : List Nat) (h : l.Pairwise (· ≤ ·)) : (insertSorted x l).Pairwise (· ≤ ·) := by
  induction l with
  | nil => simp [insertSorted]
  | cons y l ih =>
    simp only [insertSorted]
    have hy := (List.pairwise_cons.1 h)
    split
    · rename_i hxy
      refine List.pairwise_cons.2 ⟨?_, h⟩
      intro z hz
      rcases List.mem_cons.1 hz with rfl | hz
      · exact hxy
      · exact hxy.trans (hy.1 z hz)
    · rename_i hxy
      refine List.pairwise_cons.2 ⟨?_, ih hy.2⟩
      intro z hz
      rcases List.mem_cons.1 ((insertSorted_perm x l).mem_iff.1 hz) with rfl | hz
      · exact le_of_not_ge hxy
      · exact hy.1 z hz

/-- A sorted list is a permutation of the list. -/
theorem sorted_perm (l : List Nat) : (sorted l).Perm l := by
  induction l with
  | nil => exact List.Perm.refl _
  | cons x l ih => exact (insertSorted_perm x (sorted l)).trans (ih.cons x)

/-- A sorted list is in order. -/
theorem sorted_pairwise (l : List Nat) : (sorted l).Pairwise (· ≤ ·) := by
  induction l with
  | nil => simp [sorted]
  | cons x l ih => exact insertSorted_pairwise x _ ih

/-- A list in order is the sorted list of every permutation of it. -/
theorem sorted_eq {l m : List Nat} (hp : l.Perm m) (hm : m.Pairwise (· ≤ ·)) : sorted l = m :=
  List.Perm.eq_of_pairwise (fun _ _ _ _ => le_antisymm) (sorted_pairwise l) hm ((sorted_perm l).trans hp)

/-! ## What the operations change -/

/-- A re-evaluation of the consensus changes the speed, its status, its hold timer and the used flags, and hands on at most the
speed notices. -/
theorem State.reevaluate_eq (s : State) (expired : Bool) : s.reevaluate expired = { s with
    pvu := s.pvu.consensus expired s.candidates
    handed := s.handed ++
      if (s.pvu.consensus expired s.candidates).speed = s.pvu.speed ∧
          (s.pvu.consensus expired s.candidates).speedStatus = s.pvu.speedStatus then []
      else s.speedNotices (s.pvu.consensus expired s.candidates).speed (s.pvu.consensus expired s.candidates).speedStatus } := by
  unfold State.reevaluate
  dsimp only
  split <;> simp [State.hand]

/-- The consensus keeps everything of the peer view but the speed, its status, its hold timer and the used flags. -/
theorem Pvu.consensus_eq (p : Pvu) (expired : Bool) (cs : List Candidate) : p.consensus expired cs = { p with
    speed := (p.consensus expired cs).speed
    speedStatus := (p.consensus expired cs).speedStatus
    speedHold := (p.consensus expired cs).speedHold
    used := (p.consensus expired cs).used } := by
  unfold Pvu.consensus
  dsimp only
  split <;> rfl

/-- With a candidate used, the consensus is that of the values used. -/
theorem Pvu.consensus_some {p : Pvu} {expired : Bool} {cs : List Candidate} {v : Nat} {st : SpeedStatus}
    (h : consensusOf (usedValues cs) = some (v, st)) : (p.consensus expired cs).speed = v ∧
      (p.consensus expired cs).speedStatus = st ∧ (p.consensus expired cs).speedHold = none := by
  unfold Pvu.consensus
  simp [h]

/-- With no candidate used, the value stays and the status and the timer are those of a lost speed. -/
theorem Pvu.consensus_none {p : Pvu} {expired : Bool} {cs : List Candidate} (h : consensusOf (usedValues cs) = none) :
    (p.consensus expired cs).speed = p.speed ∧
      (p.consensus expired cs).speedStatus = (loseSpeed expired p.speedStatus p.speedHold).1 ∧
      (p.consensus expired cs).speedHold = (loseSpeed expired p.speedStatus p.speedHold).2 := by
  unfold Pvu.consensus
  simp [h]

/-- Setting the view changes its three items and hands on at most the view change. -/
theorem State.setView_eq (s : State) (value : Int) (st : ViewStatus) (hold : Timer) : s.setView value st hold = { s with
    pvu := { s.pvu with view := value, viewStatus := st, viewHold := hold }
    handed := s.handed ++ if st = s.pvu.viewStatus then [] else [.viewChange st] } := by
  unfold State.setView
  dsimp only
  split <;> simp [State.hand]

/-- A silent source changes the three items of the view and hands on at most the view change. -/
theorem State.viewSilent_eq (s : State) : s.viewSilent = { s with
    pvu := { s.pvu with view := s.pvu.view
                        viewStatus := s.viewSilent.pvu.viewStatus, viewHold := s.viewSilent.pvu.viewHold }
    handed := s.viewSilent.handed } := by
  unfold State.viewSilent
  split <;> simp [State.setView_eq]

/-- Taking the head frame changes the frame in processing and the receive queue. -/
theorem State.takeFrame_eq (s : State) : s.takeFrame = { s with
    pvu := { s.pvu with processing := s.takeFrame.pvu.processing }
    bi := { s.bi with rfq := s.takeFrame.bi.rfq } } := by
  unfold State.takeFrame
  split <;> rfl

/-- An idle peer view takes the head frame, if there is one. -/
theorem State.takeFrame_idle {s : State} (h : s.pvu.processing = none) :
    s.takeFrame.pvu.processing = s.bi.rfq.head?.map (fun g => (g, 0)) ∧ s.takeFrame.bi.rfq = s.bi.rfq.tail := by
  unfold State.takeFrame
  rw [h]
  cases hq : s.bi.rfq with
  | nil => simp [h, hq]
  | cons f l => simp

/-- A peer view at work takes no frame. -/
theorem State.takeFrame_busy {s : State} (h : s.pvu.processing ≠ none) : s.takeFrame = s := by
  unfold State.takeFrame
  cases hp : s.pvu.processing with
  | none => exact absurd hp h
  | some q => rfl

/-- An offer changes the receive queue, the frame in processing and the hand-offs, and nothing else. -/
theorem State.offer_eq (s : State) (f : RxFrame) : s.offer f = { s with
    pvu := { s.pvu with processing := (s.offer f).pvu.processing }
    bi := { s.bi with rfq := (s.offer f).bi.rfq }
    handed := s.handed ++ if (offerFrame s.bi.rfq f).2 then [.conditionReport .queueOverrun true] else [] } := by
  unfold State.offer
  dsimp only
  rw [State.takeFrame_eq]
  split <;> simp [State.hand]

/-- An offer to an idle peer view: the queue settles the frame, and the head is taken at once. -/
theorem State.offer_idle {s : State} (f : RxFrame) (h : s.pvu.processing = none) : s.offer f = { s with
    bi := { s.bi with rfq := (offerFrame s.bi.rfq f).1.tail }
    pvu := { s.pvu with processing := (offerFrame s.bi.rfq f).1.head?.map (fun g => (g, 0)) }
    handed := s.handed ++ if (offerFrame s.bi.rfq f).2 = true then [.conditionReport .queueOverrun true] else [] } := by
  have hp : (s.offer f).pvu.processing = (offerFrame s.bi.rfq f).1.head?.map (fun g => (g, 0)) ∧
      (s.offer f).bi.rfq = (offerFrame s.bi.rfq f).1.tail := by
    simp only [State.offer]
    split <;> exact State.takeFrame_idle (by simpa [State.hand] using h)
  rw [State.offer_eq, hp.1, hp.2]

/-- An offer to a peer view at work: the queue settles the frame. -/
theorem State.offer_busy {s : State} (f : RxFrame) (h : s.pvu.processing ≠ none) : s.offer f = { s with
    bi := { s.bi with rfq := (offerFrame s.bi.rfq f).1 }
    handed := s.handed ++ if (offerFrame s.bi.rfq f).2 = true then [.conditionReport .queueOverrun true] else [] } := by
  simp only [State.offer]
  split <;> rw [State.takeFrame_busy (by simpa [State.hand] using h)] <;> simp [State.hand]

end Sys2Proof.Machine
end

