-- ==== Sys2Proof/Laws/Bus.lean ====
section
/-! SUPPORT. The bus interface: the expansion of copies, the offer of a frame to the receive queue, the slots of the transmitter
(R159, R164, R166 to R169). -/

namespace Sys2Proof.Machine

/-! ## The receiver -/

/-- Copies that meet neither the limit nor a foreign DEST all enter the assembler. -/
theorem expandCopies_going (own : Addr) (b : Byte) (n : Nat) (a : Assembler)
    (hd : ¬(a.kind.hasDest = true ∧ a.bytes = [] ∧ b.toNat ≠ own.toNat ∧ b.toNat ≠ 15))
    (hl : a.bytes.length + n ≤ 35) : expandCopies own b n a = .going { a with
      bytes := a.bytes ++ List.replicate n b, crc := (List.replicate n b).foldl crcByte a.crc } := by
  induction n generalizing a with
  | zero => simp [expandCopies]
  | succ n ih =>
    have h1 : expandByte own a b = .going { a with bytes := a.bytes ++ [b], crc := crcByte a.crc b } := by
      unfold expandByte
      rw [if_neg (by simp [Config.expandedLimit]; omega), if_neg]
      simpa [and_assoc] using hd
    simp only [expandCopies, h1]
    rw [ih]
    · simp [List.replicate_succ]
    · simp
    · simp; omega

/-- A foreign DEST ends the taking of a frame at its first copy. -/
theorem expandCopies_notForUs (own : Addr) (b : Byte) (n : Nat) (a : Assembler)
    (hd : a.kind.hasDest = true ∧ a.bytes = [] ∧ b.toNat ≠ own.toNat ∧ b.toNat ≠ 15) (hn : 1 ≤ n) :
    expandCopies own b n a = .notForUs := by
  obtain ⟨m, rfl⟩ : ∃ m, n = m + 1 := ⟨n - 1, by omega⟩
  obtain ⟨h1, h2, h3, h4⟩ := hd
  have : expandByte own a b = .notForUs := by
    unfold expandByte
    rw [if_neg (by simp [Config.expandedLimit, h2]), if_pos (by simp [h1, h2, h3, h4])]
  simp only [expandCopies, this]

/-- Copies that would pass the limit are a format error. -/
theorem expandCopies_formatError (own : Addr) (b : Byte) (n : Nat) (a : Assembler)
    (hd : ¬(a.kind.hasDest = true ∧ a.bytes = [] ∧ b.toNat ≠ own.toNat ∧ b.toNat ≠ 15))
    (hl : 35 < a.bytes.length + n) (ha : a.bytes.length ≤ 35) : expandCopies own b n a = .formatError := by
  induction n generalizing a with
  | zero => omega
  | succ n ih =>
    by_cases h35 : 35 ≤ a.bytes.length
    · have : expandByte own a b = .formatError := by
        unfold expandByte
        rw [if_pos (by simpa [Config.expandedLimit] using h35)]
      simp only [expandCopies, this]
    · have h1 : expandByte own a b = .going { a with bytes := a.bytes ++ [b], crc := crcByte a.crc b } := by
        unfold expandByte
        rw [if_neg (by simpa [Config.expandedLimit] using h35), if_neg]
        simpa [and_assoc] using hd
      simp only [expandCopies, h1]
      apply ih
      · simp
      · simp; omega
      · simp; omega

/-- A receiver that copies have entered is within its limit. -/
theorem expandCopies_sound (own : Addr) (b : Byte) (n : Nat) (a : Assembler) (ha : a.bytes.length ≤ 35) (hr : a.run = none) :
    (expandCopies own b n a).receiver.sound := by
  induction n generalizing a with
  | zero => simp [expandCopies, Expansion.receiver, Receiver.sound, hr, ha]
  | succ n ih =>
    simp only [expandCopies]
    cases he : expandByte own a b with
    | going a' =>
      simp only
      unfold expandByte at he
      split at he
      · simp at he
      · rename_i h1
        split at he
        · simp at he
        · simp only [Expansion.going.injEq] at he
          subst he
          apply ih
          · simp [Config.expandedLimit] at h1 ⊢; omega
          · exact hr
    | formatError => trivial
    | notForUs => trivial

/-! ## The receive queue -/

/-- Eviction finds nothing exactly in a queue with no periodic frame. -/
theorem evictPeriodic_none {q : List RxFrame} : evictPeriodic q = none ↔ ∀ x ∈ q, x.kind.periodic = false := by
  induction q with
  | nil => simp [evictPeriodic]
  | cons g q ih =>
    simp only [evictPeriodic]
    cases h : evictPeriodic q with
    | some r =>
      have : ¬ ∀ x ∈ q, x.kind.periodic = false := fun hh => by rw [ih.2 hh] at h; simp at h
      simp only [reduceCtorEq, List.mem_cons, forall_eq_or_imp, false_iff, not_and]
      exact fun _ => this
    | none =>
      have := ih.1 h
      cases hp : g.kind.periodic <;> simp [hp]
      exact this

/-- Eviction removes the periodic frame nearest the tail. -/
theorem evictPeriodic_some {before after : List RxFrame} {g : RxFrame} (hg : g.kind.periodic = true)
    (ha : ∀ x ∈ after, x.kind.periodic = false) : evictPeriodic (before ++ g :: after) = some (before ++ after) := by
  induction before with
  | nil => simp [evictPeriodic, evictPeriodic_none.2 ha, hg]
  | cons b l ih => simp [evictPeriodic, ih]

/-- What eviction leaves is a part of the queue, one frame shorter. -/
theorem evictPeriodic_sublist {q r : List RxFrame} (h : evictPeriodic q = some r) : r.Sublist q ∧ q.length = r.length + 1 := by
  induction q generalizing r with
  | nil => simp [evictPeriodic] at h
  | cons g q ih =>
    simp only [evictPeriodic] at h
    split at h
    · rename_i r' hr'
      simp only [Option.some.injEq] at h
      subst h
      obtain ⟨a, b⟩ := ih hr'
      exact ⟨a.cons_cons g, by simp [b]⟩
    · split at h
      · simp only [Option.some.injEq] at h
        subst h
        exact ⟨List.sublist_cons_self g q, rfl⟩
      · simp at h

/-- Two frames are the same source and kind. -/
theorem RxFrame.same_iff (f g : RxFrame) : f.same g = true ↔ f.src = g.src ∧ f.kind = g.kind := by
  simp [RxFrame.same]

/-! ## The line (R155, R156) -/

/-- Reading the line changes the level read last and nothing else. -/
theorem State.readLine_eq (s : State) (level : Bool) : s.readLine level =
    { s with bi := { s.bi with sbs := if s.bi.rx = .off then s.bi.sbs else level } } := by
  unfold State.readLine
  split
  · rfl
  · rfl

/-- A bit time changes the level read last, the frame in flight and the time of the break, and nothing else. -/
theorem Bi.bitTime_eq (b : Bi) (others : Bool) : b.bitTime others = { b with
    sbs := (b.bitTime others).sbs, inFlight := b.inFlight.map InFlight.nextBit
    abortTime := Timer.bump b.abortTime Config.tAbort } := rfl

/-- What a bit time reads on SBS (R155): nothing while the BI is off, the level driven while a frame is sent, and otherwise the
line, which is 0 where SBD or another station drives it. -/
theorem Bi.bitTime_sbs (b : Bi) (others : Bool) : (b.bitTime others).sbs =
    if b.rx = .off then b.sbs else if b.tx = .sending then (b.bitTime others).sbd else (b.bitTime others).sbd && others :=
  rfl

/-- A character is read back from its 11 bits. -/
theorem charOfWord_word (c : LineChar) : charOfWord c.word = c := by
  have e : ∀ b : Byte, (LineChar.data b).word.extractLsb' 1 8 = b ∧ (LineChar.mark b).word.extractLsb' 1 8 = b := by decide
  have h : ∀ b : Byte, (LineChar.data b).word.getLsbD 9 = false ∧ (LineChar.mark b).word.getLsbD 9 = true := by decide
  unfold charOfWord
  cases c with
  | data b => rw [(h b).1, (e b).1]; rfl
  | mark b => rw [(h b).2, (e b).2]; rfl

/-- A character sent is the event of its command: it begins with the start bit 0 and ends with the stop bit 1. -/
theorem lineEvent_word (c : LineChar) : lineEvent c.word = some c.command := by
  have h : ∀ b : Byte, ((LineChar.data b).word.getLsbD 10 = false ∧ (LineChar.data b).word.getLsbD 0 = true) ∧
      (LineChar.mark b).word.getLsbD 10 = false ∧ (LineChar.mark b).word.getLsbD 0 = true := by decide
  have h2 : c.word.getLsbD 10 = false ∧ c.word.getLsbD 0 = true := by
    cases c with
    | data b => exact (h b).1
    | mark b => exact (h b).2
  unfold lineEvent
  rw [h2.1, h2.2, charOfWord_word]
  rfl

/-! ## The slots -/

/-- What a slot holds after another kind's slot is changed. -/
theorem Slots.get_put_ne (x : Slots) {j k : FrameKind} (v : Option Slot) (h : j ≠ k) : (x.put k v).get j = x.get j := by
  cases j <;> cases k <;> first | rfl | exact absurd rfl h

/-- What a slot holds after it is changed, for a kind that has one. -/
theorem Slots.get_put_self (x : Slots) {k : FrameKind} (v : Option Slot) (h : FrameKind.hasSlot k = true) :
    (x.put k v).get k = v := by
  cases k <;> first | rfl | exact absurd h (by decide)

/-- The lowest kind's slot is not empty. -/
theorem Slots.get_of_lowest {x : Slots} {k : FrameKind} (h : x.lowest = some k) :
    FrameKind.hasSlot k = true ∧ (x.get k).isSome = true := by
  unfold Slots.lowest at h
  repeat' split at h
  all_goals first | (cases h; exact ⟨rfl, by assumption⟩) | (exact absurd h (by simp))

/-- No slot holds a frame exactly when there is no lowest kind. -/
theorem Slots.lowest_none {x : Slots} :
    x.lowest = none ↔ x.halt = none ∧ x.rider = none ∧ x.contrib = none ∧ x.report = none := by
  unfold Slots.lowest
  cases x.halt <;> cases x.rider <;> cases x.contrib <;> cases x.report <;> simp

end Sys2Proof.Machine
end

