-- ==== Sys2Proof/Laws/Conditions.lean ====
section
/-! SUPPORT. The condition sets: what stands in a set after it is put, built from a predicate, or searched, so that no proof
unfolds the bits (R138 to R140). -/

namespace Sys2Proof.Machine

/-- A condition code is 1..14. -/
theorem condCode_range (c : Condition) : 1 ≤ condCode c ∧ condCode c ≤ 14 := by cases c <;> decide

/-- Two conditions with one code are one condition. -/
theorem condCode_inj {c d : Condition} (h : condCode c = condCode d) : c = d := by
  cases c <;> cases d <;> first | rfl | exact absurd h (by decide)

/-- Every condition is in the list of all. -/
@[simp] theorem mem_allConditions (c : Condition) : c ∈ allConditions := by cases c <;> decide

/-- The empty set holds nothing. -/
@[simp] theorem CondSet.has_zero (c : Condition) : CondSet.has 0 c = false := by cases c <;> rfl

/-- What stands in a set after one condition is put in or taken out. -/
theorem CondSet.has_put (x : CondSet) (c d : Condition) (b : Bool) :
    (CondSet.put x c b).has d = if d = c then b else x.has d := by
  have hc := condCode_range c
  have hd := condCode_range d
  by_cases h : d = c
  · subst h
    have h16 : condCode d - 1 < 16 := by omega
    cases b <;> simp [CondSet.put, CondSet.has, h16]
  · have hn : condCode d ≠ condCode c := fun e => h (condCode_inj e)
    have h0 : ¬(condCode d - 1 < condCode c - 1) → (1#16).getLsbD (condCode d - 1 - (condCode c - 1)) = false := by
      intro _
      rw [BitVec.getLsbD_one]
      simp; omega
    cases b <;> simp [CondSet.put, CondSet.has, BitVec.getLsbD_shiftLeft, h] <;> grind

/-- The condition put in or taken out. -/
@[simp] theorem CondSet.has_put_self (x : CondSet) (c : Condition) (b : Bool) : (CondSet.put x c b).has c = b := by
  simp [CondSet.has_put]

/-- Every other condition stays as it was. -/
@[simp] theorem CondSet.has_put_ne (x : CondSet) {c d : Condition} (b : Bool) (h : d ≠ c) :
    (CondSet.put x c b).has d = x.has d := by
  simp [CondSet.has_put, h]

/-- What stands in a set after several conditions are put by a predicate. -/
theorem CondSet.has_foldl_put (f : Condition → Bool) (d : Condition) (l : List Condition) (x : CondSet) :
    CondSet.has (l.foldl (fun x c => CondSet.put x c (f c)) x) d = if d ∈ l then f d else x.has d := by
  induction l generalizing x with
  | nil => simp
  | cons c l ih =>
    rw [List.foldl_cons, ih, CondSet.has_put]
    by_cases h : d ∈ l <;> by_cases e : d = c <;> simp [h, e]

/-- The set of a predicate holds exactly what the predicate says. -/
@[simp] theorem CondSet.has_ofPred (f : Condition → Bool) (c : Condition) : CondSet.has (CondSet.ofPred f) c = f c := by
  simp [CondSet.ofPred, CondSet.has_foldl_put]

/-- Some condition of a class stands in a set. -/
theorem CondSet.anyOf_iff (x : CondSet) (f : Condition → Bool) :
    x.anyOf f = true ↔ ∃ c, f c = true ∧ x.has c = true := by
  simp [CondSet.anyOf]

/-- No condition of a class stands in a set. -/
theorem CondSet.anyOf_false_iff (x : CondSet) (f : Condition → Bool) :
    x.anyOf f = false ↔ ∀ c, f c = true → x.has c = false := by
  simp [CondSet.anyOf]

/-- A condition put into the NSC: the present set. -/
@[simp] theorem Nsc.putCondition_present_has (n : Nsc) (c d : Condition) (b : Bool) :
    (n.putCondition c b).present.has d = if d = c then b else n.present.has d := CondSet.has_put ..

/-- A condition put into the NSC: the latches, which only a latched condition that becomes present changes. -/
@[simp] theorem Nsc.putCondition_latches_has (n : Nsc) (c d : Condition) (b : Bool) :
    (n.putCondition c b).latches.has d = (n.latches.has d || (decide (d = c) && b && isLatched c)) := by
  unfold Nsc.putCondition
  cases b <;> cases isLatched c <;> by_cases e : d = c <;> simp [e]

end Sys2Proof.Machine
end

