-- ==== Sys2Proof/Laws/Node.lean ====
section
/-! SUPPORT. The node state controller: what each of its operations changes in the state (R140 to R152). -/

namespace Sys2Proof.Machine

/-- What a condition that becomes present does changes the NSC and the hand-offs, and nothing else; the condition sets, the
last HALT, the top copy and the speed copy stay. -/
theorem State.onPresent_eq (s : State) (c : Condition) : s.onPresent c = { s with
    nsc := { s.nsc with
      node := (s.onPresent c).nsc.node
      flt := (s.onPresent c).nsc.flt
      joinCount := (s.onPresent c).nsc.joinCount
      clearRun := (s.onPresent c).nsc.clearRun
      rejoin := (s.onPresent c).nsc.rejoin
      dormantDwell := (s.onPresent c).nsc.dormantDwell }
    handed := (s.onPresent c).handed } := by
  unfold State.onPresent State.leaveRunning State.enterNode Nsc.enter
  simp only [State.setNsc, State.hand]
  cases s.nsc.node <;> simp only <;> (repeat' split) <;> simp_all

/-- A condition put into the NSC changes the two condition sets and nothing else. -/
theorem Nsc.putCondition_eq (n : Nsc) (c : Condition) (b : Bool) : n.putCondition c b = { n with
    present := (n.putCondition c b).present, latches := (n.putCondition c b).latches } := rfl

/-- A condition found present or absent changes the NSC and the hand-offs, and nothing else. -/
theorem State.report_eq (s : State) (c : Condition) (b : Bool) : s.report c b = { s with
    nsc := { s.nsc with
      node := (s.report c b).nsc.node
      flt := (s.report c b).nsc.flt
      present := (s.report c b).nsc.present
      latches := (s.report c b).nsc.latches
      joinCount := (s.report c b).nsc.joinCount
      clearRun := (s.report c b).nsc.clearRun
      rejoin := (s.report c b).nsc.rejoin
      dormantDwell := (s.report c b).nsc.dormantDwell }
    handed := (s.report c b).handed } := by
  unfold State.report
  split
  · rfl
  · split
    · rw [State.onPresent_eq]; rfl
    · split <;> rfl

/-- What stands in the present set after a condition is found present or absent. -/
theorem State.report_present (s : State) (c d : Condition) (b : Bool) :
    (s.report c b).nsc.present.has d =
      if d = c then (b || (s.nsc.present.has c && staysPresent c)) else s.nsc.present.has d := by
  unfold State.report
  split
  · rename_i h
    split
    · rename_i e; subst e; rw [h]; cases b <;> simp
    · rfl
  · rename_i h
    split
    · rename_i hb
      rw [State.onPresent_eq]
      simp [hb]
    · rename_i hb
      have hp : s.nsc.present.has c = true := by cases hh : s.nsc.present.has c <;> simp_all
      split
      · rename_i hs; by_cases e : d = c <;> simp_all
      · rename_i hs; by_cases e : d = c <;> simp_all

/-- What stands in the latch set after a condition is found present or absent. -/
theorem State.report_latches (s : State) (c d : Condition) (b : Bool) :
    (s.report c b).nsc.latches.has d =
      (s.nsc.latches.has d || (decide (d = c) && b && isLatched c && !s.nsc.present.has c)) := by
  unfold State.report
  split
  · rename_i h; subst h; cases s.nsc.present.has c <;> simp
  · rename_i h
    split
    · rename_i hb
      rw [State.onPresent_eq]
      cases hh : s.nsc.present.has c <;> simp_all
    · split <;> simp_all

/-- All that a condition found present or absent can do from LISTEN to DORMANT, for a condition that a report can clear: the two
condition sets, and, where it is newly present in a state that it moves, the new node state with its notices. OVERLEAN, which
also moves LISTEN, has `State.onPresent` for itself. -/
theorem State.report_spec (s : State) (c : Condition) (b : Bool) (hl : s.nsc.node.live = true) (hc : c ≠ .overlean)
    (hd : staysPresent c = false) :
    let t := s.report c b
    let new := b = true ∧ s.nsc.present.has c = false
    let out := s.nsc.node = .active ∨ s.nsc.node = .degraded ∨ s.nsc.node = .dormant
    t.nsc.present.has c = b ∧ (∀ d, d ≠ c → t.nsc.present.has d = s.nsc.present.has d) ∧
    (isLatched c = false ∨ ¬new → t.nsc.latches = s.nsc.latches) ∧
    (isLatched c = true → new → t.nsc.latches.has c = true) ∧
    (∀ d, d ≠ c → t.nsc.latches.has d = s.nsc.latches.has d) ∧
    (new → isSerious c = true → out → t.nsc.clearRun = s.nsc.clearRun ∧
      t.nsc.node = (if s.role = .steer ∨ c = .voteOutlier ∨ s.prm.vFree ≤ s.nsc.speed.value then .free else .clamped)) ∧
    (new → isSerious c = false → isDegrading c = true → out → t.nsc.clearRun = 0 ∧ t.nsc.node = .degraded) ∧
    (¬new ∨ ¬out → t.nsc.clearRun = s.nsc.clearRun ∧ t.nsc.node = s.nsc.node) ∧
    t.handed = s.handed ++ (if t.nsc.node = s.nsc.node then [] else s.nodeNotices s.nsc.node t.nsc.node) ∧
    (t.nsc.node ≠ s.nsc.node → out ∧ t.nsc.flt = t.nsc.node.faulted) ∧ (t.nsc.node = s.nsc.node → t.nsc.flt = s.nsc.flt) ∧
    t.nsc.rejoin = (if t.nsc.node = s.nsc.node then s.nsc.rejoin else none) ∧ t.nsc.node.live = true ∧
    t = { s with nsc := { s.nsc with node := t.nsc.node, flt := t.nsc.flt, present := t.nsc.present,
                                     latches := t.nsc.latches, clearRun := t.nsc.clearRun,
                                     dormantDwell := t.nsc.dormantDwell, rejoin := t.nsc.rejoin }
                 handed := t.handed } := by
  have hc2 : c ≠ .haltTaken := by rintro rfl; exact absurd hd (by decide)
  dsimp only
  have hp := fun d => State.report_present s c d b
  have hL := fun d => State.report_latches s c d b
  refine ⟨by rw [hp, if_pos rfl, hd]; simp, fun d h => by rw [hp, if_neg h], ?_, ?_, fun d h => by rw [hL]; simp [h], ?_⟩
  · intro h
    unfold State.report
    split
    · rfl
    · split
      · rw [State.onPresent_eq]
        rename_i h1 h2
        subst h2
        rcases h with h | h
        · simp [Nsc.putCondition, h]
        · simp at h; simp_all
      · rw [if_neg (by simp [hd])]; rfl
  · rintro h1 ⟨h2, h3⟩; rw [hL]; simp [h1, h2, h3]
  clear hp hL
  by_cases h1 : s.nsc.present.has c = b
  · have hn : ¬(b = true ∧ s.nsc.present.has c = false) := by rintro ⟨rfl, h⟩; simp [h] at h1
    rw [show s.report c b = s from if_pos h1]
    simp [hn, hl]
  · cases b
    · rw [show s.report c false = s.setNsc (s.nsc.putCondition c false) by unfold State.report; rw [if_neg h1]; simp [hd]]
      simp [State.setNsc, Nsc.putCondition, hl]
    · have h2 : s.nsc.present.has c = false := by simpa using h1
      rw [show s.report c true = (s.setNsc (s.nsc.putCondition c true)).onPresent c by
        unfold State.report; rw [if_neg h1]; simp]
      simp only [h2, and_self, not_true_eq_false, false_or]
      cases hn : s.nsc.node <;> rw [hn] at hl <;> simp [NodeState.live] at hl
      all_goals cases hs : isSerious c <;> cases hg : isDegrading c
      all_goals (try (exfalso; revert hs hg; cases c <;> decide))
      all_goals simp [State.onPresent, hn, hs, hg, State.setNsc, Nsc.putCondition, hc, hc2, State.enterNode, Nsc.enter,
        State.hand, State.leaveRunning, State.role, State.nodeNotices, State.hasBcu, NodeState.live]
      all_goals (split <;> simp_all)

/-- A wake cause changes the NSC and the hand-offs, and nothing else. -/
theorem State.wakeWhen_eq (s : State) (cause : Bool) : s.wakeWhen cause =
    if s.nsc.node = .dormant ∧ cause = true then s.enterNode .active else s := rfl

/-- The dormant dwell evaluated changes the dwell and nothing else. -/
theorem State.evalDormant_eq (s : State) (before : NodeState) (v : Nat) (st : SpeedStatus) : s.evalDormant before v st = { s with
    nsc := { s.nsc with dormantDwell := (s.evalDormant before v st).nsc.dormantDwell } } := by
  unfold State.evalDormant; split <;> rfl

/-- The rejoin timer evaluated changes the rejoin timer and nothing else. -/
theorem State.evalRejoin_eq (s : State) : s.evalRejoin = { s with nsc := { s.nsc with rejoin := s.evalRejoin.nsc.rejoin } } := rfl

/-- When the rejoin timer is to run (R149). -/
theorem Nsc.rejoinHolds_iff (n : Nsc) : n.rejoinHolds = true ↔ (n.node = .free ∨ n.node = .clamped) ∧
    (∀ c, isSerious c = true → n.present.has c = false) ∧ n.latches.has .overlean = false ∧
    n.latches.has .haltTaken = false ∧ n.latches.has .voteOutlier = false := by
  unfold Nsc.rejoinHolds Nsc.heldOut
  rw [← CondSet.anyOf_false_iff]
  simp [and_assoc]

/-- The rejoin timer evaluated runs exactly under the conditions of R149. -/
theorem State.evalRejoin_sound (s : State) : s.evalRejoin.soundRejoin := by
  unfold State.soundRejoin State.evalRejoin
  simp only [State.setNsc, Timer.keep]
  rw [← Nsc.rejoinHolds_iff]
  cases s.nsc.rejoinHolds <;> simp

/-- An event that ends with the rejoin timer evaluated, whose changes of the node state have stopped the timer. -/
theorem State.evalRejoin_runs (s t : State) (h : t.nsc.rejoin = if t.nsc.node = s.nsc.node then s.nsc.rejoin else none) :
    rejoinRuns s t.evalRejoin := by
  refine ⟨t.evalRejoin_sound, fun n => ?_⟩
  rw [show t.evalRejoin.nsc.node = t.nsc.node from rfl]
  simp only [State.evalRejoin, State.setNsc, Timer.keep]
  split
  · intro e
    simp only [Option.some.injEq] at e
    subst e
    rw [h]
    split <;> simp
  · simp

/-! ## The dormant dwell (R150) and the notices of a passage (R142) -/

/-- What a condition that becomes present does to the dwell and to the hand-offs: where the node state changes, to a state that is
neither ACTIVE nor LISTEN, the dwell is stopped and the change handed on; the join count stays. -/
theorem State.onPresent_passage (s : State) (c : Condition) :
    (s.onPresent c).nsc.dormantDwell = (if (s.onPresent c).nsc.node = s.nsc.node then s.nsc.dormantDwell else none) ∧
    (s.onPresent c).handed = s.handed ++ (if (s.onPresent c).nsc.node = s.nsc.node then []
      else s.nodeNotices s.nsc.node (s.onPresent c).nsc.node) ∧
    (s.onPresent c).nsc.joinCount = s.nsc.joinCount ∧
    ((s.onPresent c).nsc.node ≠ s.nsc.node → (s.onPresent c).nsc.node ≠ .active ∧ (s.onPresent c).nsc.node ≠ .listen) := by
  unfold State.onPresent
  cases h : s.nsc.node <;> simp only [State.leaveRunning] <;> (repeat' split) <;>
    simp_all [State.enterNode, Nsc.enter, State.setNsc, State.hand]

/-- The same of a condition found present or absent. -/
theorem State.report_passage (s : State) (c : Condition) (b : Bool) :
    (s.report c b).nsc.dormantDwell = (if (s.report c b).nsc.node = s.nsc.node then s.nsc.dormantDwell else none) ∧
    (s.report c b).handed = s.handed ++ (if (s.report c b).nsc.node = s.nsc.node then []
      else s.nodeNotices s.nsc.node (s.report c b).nsc.node) ∧
    (s.report c b).nsc.joinCount = s.nsc.joinCount ∧
    ((s.report c b).nsc.node ≠ s.nsc.node → (s.report c b).nsc.node ≠ .active ∧ (s.report c b).nsc.node ≠ .listen) := by
  unfold State.report
  split
  · simp
  · split
    · exact State.onPresent_passage (s.setNsc (s.nsc.putCondition c true)) c
    · split <;> simp [State.setNsc, Nsc.putCondition]

/-- The role's own part of the dormant conditions (R150). -/
theorem State.dormantRole_iff (t : State) : t.dormantRole = true ↔ (t.role ≠ .steer → t.bcu.state = .engaged) ∧
    (t.role = .steer → ∀ r, r = .tiltA ∨ r = .tiltB → t.addrOf r ≠ none →
      ∃ c f, t.contribOf r = some (c, f) ∧ f.heard = true ∧ c.nodeState = 6) := by
  unfold State.dormantRole
  by_cases h : t.role = .steer
  · have key : ∀ r, ((t.addrOf r).isNone ||
        (match t.contribOf r with | some (c, f) => f.heard && c.nodeState == 6 | none => false)) = true ↔
        (t.addrOf r ≠ none → ∃ c f, t.contribOf r = some (c, f) ∧ f.heard = true ∧ c.nodeState = 6) := by
      intro r
      cases ha : t.addrOf r <;> simp
      cases hc : t.contribOf r <;> simp
      rename_i x
      obtain ⟨c, f⟩ := x
      simp
    simp only [h, if_true, List.all_cons, List.all_nil, Bool.and_true]
    rw [Bool.and_eq_true]
    refine ⟨fun ⟨a, b⟩ => ⟨fun x => absurd rfl x, fun _ r hr => ?_⟩,
      fun x => ⟨(key _).2 (x.2 trivial _ (.inl rfl)), (key _).2 (x.2 trivial _ (.inr rfl))⟩⟩
    rcases hr with rfl | rfl
    · exact (key _).1 a
    · exact (key _).1 b
  · simp [h]

/-- The five conditions of the dormant dwell (R150). -/
theorem State.dormantHolds_iff (t : State) (v : Nat) (st : SpeedStatus) : t.dormantHolds v st = true ↔
    t.nsc.topCopy = some .park ∧ st.heard = true ∧ v = 0 ∧ t.nsc.present = 0 ∧
      (t.role ≠ .steer → t.bcu.state = .engaged) ∧
      (t.role = .steer → ∀ r, r = .tiltA ∨ r = .tiltB → t.addrOf r ≠ none →
        ∃ c f, t.contribOf r = some (c, f) ∧ f.heard = true ∧ c.nodeState = 6) := by
  simp only [State.dormantHolds, Bool.and_eq_true, State.dormantRole_iff, and_assoc, beq_iff_eq]

/-- An event that ends with the dormant dwell evaluated, whose passages have stopped it, leaves it running as R150 says. -/
theorem State.evalDormant_runs (s t : State) (v : Nat) (st : SpeedStatus)
    (hd : t.nsc.dormantDwell = if t.nsc.node = s.nsc.node ∨ t.nsc.node = .active then s.nsc.dormantDwell else none) :
    dormantRuns s (t.evalDormant s.nsc.node v st) v st := by
  unfold State.evalDormant
  split
  · rename_i h
    have hk := Timer.keep_spec t.nsc.dormantDwell
    refine ⟨fun _ _ => ⟨?_, ?_⟩, ?_, ?_⟩
    · simp only [State.setNsc, hk, State.dormantHolds_iff]; rfl
    · intro n hn
      rw [(hk _).2 _ hn, hd]; simp [h.1, h.2]
    · simp [State.setNsc, h.1, h.2]
    · simp [h.1]
  · rename_i h
    refine ⟨?_, ?_, ?_⟩
    · intro a b; exact absurd ⟨a, b⟩ h
    · intro a b; rw [hd]; simp [a, b]
    · intro a b; rw [hd]; rcases b with b | b <;> simp [b]

/-- A change of the node state sets FLT as the new state has it. -/
theorem State.enterNode_flt (s : State) (n : NodeState) : (s.enterNode n).nsc.flt = n.faulted := rfl

end Sys2Proof.Machine
end

