-- ==== Sys2Proof/Laws/Frames.lean ====
section
/-! SUPPORT. What the shared operations of the units leave: each equals the old state with the fields it can change, so that a
proof about any other field cites the equation and unfolds nothing. -/

namespace Sys2Proof.Machine

/-! ## The override stack and the brake -/

/-- A request in DORMANT hands on the wake cause and changes nothing else. -/
theorem State.wakeIfDormant_eq (s : State) : s.wakeIfDormant =
    { s with handed := s.handed ++ if s.nsc.node = .dormant then [.wakeCauseReport] else [] } := by
  unfold State.wakeIfDormant
  split <;> simp [State.hand]

/-- Evaluating the demand changes the BCU only. -/
theorem State.evalDemand_eq (s : State) : s.evalDemand = { s with bcu := s.evalDemand.bcu } := by
  unfold State.evalDemand
  split <;> rfl

/-- After an evaluation the demand is the one the rules give for the state as it stood. -/
theorem State.evalDemand_demand (s : State) : s.evalDemand.bcu.demand = s.ownDemand := by
  unfold State.evalDemand
  split
  · rename_i h
    exact h.symm
  · unfold State.setBcu Bcu.demandOn Bcu.demandOff Bcu.toPreload Bcu.toReleasing Bcu.toEngaging
    cases s.ownDemand <;> dsimp only <;> cases s.bcu.state <;> dsimp only <;> simp <;> split <;> rfl

/-- The count of a sweep notice in STUCK changes the BCU and hands on at most the report. -/
theorem State.countAgree_eq (s : State) : s.countAgree = { s with bcu := s.countAgree.bcu, handed := s.countAgree.handed } := by
  unfold State.countAgree
  repeat' split
  all_goals rfl

/-- The count of a sweep notice outside STUCK changes the BCU and hands on at most the report. -/
theorem State.countInvalid_eq (s : State) :
    s.countInvalid = { s with bcu := s.countInvalid.bcu, handed := s.countInvalid.handed } := by
  unfold State.countInvalid State.lookHeldOff
  repeat' split
  all_goals rfl

/-- A sweep notice changes the BCU and the hand-offs. -/
theorem State.bcuSweep_eq (s : State) : s.bcuSweep = { s with bcu := s.bcuSweep.bcu, handed := s.bcuSweep.handed } := by
  unfold State.bcuSweep
  dsimp only
  split
  · rw [State.countAgree_eq, State.evalDemand_eq]
  · rw [State.countInvalid_eq, State.evalDemand_eq]

/-- A T_brake expiry in ENGAGING changes the BCU and the hand-offs. -/
theorem State.engagingExpiry_eq (s : State) :
    s.engagingExpiry = { s with bcu := s.engagingExpiry.bcu, handed := s.engagingExpiry.handed } := by
  unfold State.engagingExpiry
  repeat' split
  all_goals rfl

/-- A T_brake expiry in RELEASING changes the BCU and the hand-offs. -/
theorem State.releasingExpiry_eq (s : State) :
    s.releasingExpiry = { s with bcu := s.releasingExpiry.bcu, handed := s.releasingExpiry.handed } := by
  unfold State.releasingExpiry
  repeat' split
  all_goals rfl

/-! ## The measurement unit and the RIDER -/

/-- The end of a sensor transaction outside the third changes the MU only. -/
theorem State.endTransaction_eq (s : State) (r : Reading) (h : s.mu.sweep ≠ .running3) :
    s.endTransaction r = { s with mu := (s.endTransaction r).mu } := by
  unfold State.endTransaction
  split <;> first | rfl | contradiction

/-- The RIDER fill changes the bus interface, the peer table and the free-value number. -/
theorem State.riderStep_eq (s : State) : s.riderStep = { s with
    bi := s.riderStep.bi, pvu := { s.pvu with table := s.riderStep.pvu.table }, free := s.riderStep.free } := by
  unfold State.riderStep
  split
  · rfl
  · rfl
  · unfold State.fillRider
    rw [State.fill_eq]
    rfl

/-! ## The peer view -/

/-- A RIDER of the STEER station sets the view. -/
theorem State.viewRider_eq (s : State) (r : Rider) : s.viewRider r = { s with
    pvu := { s.pvu with view := clampMag Config.handlebarMax r.delta.toInt
                        viewStatus := if r.angleState = 0 then .live else .held, viewHold := none }
    handed := (s.viewRider r).handed } := by
  unfold State.viewRider
  rw [State.setView_eq]

/-- A periodic frame changes the table, the view and the hand-offs. -/
theorem State.applyPeriodic_eq (s : State) (f : RxFrame) : s.applyPeriodic f = { s with
    pvu := { s.pvu with table := (s.applyPeriodic f).pvu.table, view := (s.applyPeriodic f).pvu.view
                        viewStatus := (s.applyPeriodic f).pvu.viewStatus, viewHold := (s.applyPeriodic f).pvu.viewHold }
    handed := (s.applyPeriodic f).handed } := by
  unfold State.applyPeriodic
  dsimp only
  split
  · rw [State.viewRider_eq]
    rfl
  · rfl

/-- A frame that is applied changes the peer view and the hand-offs, and neither the roster nor the frame in processing. -/
theorem State.applyFrame_eq (s : State) (f : RxFrame) : s.applyFrame f = { s with
    pvu := { (s.applyFrame f).pvu with roster := s.pvu.roster, processing := s.pvu.processing, rowSweep := s.pvu.rowSweep }
    handed := (s.applyFrame f).handed } := by
  unfold State.applyFrame
  dsimp only
  split
  · rw [State.reevaluate_eq, Pvu.consensus_eq]
  · split
    · rw [State.reevaluate_eq, Pvu.consensus_eq]
      rfl
    · split
      · rw [State.reevaluate_eq, Pvu.consensus_eq, State.applyPeriodic_eq]
        rfl
      · rw [State.reevaluate_eq, Pvu.consensus_eq]
        rfl

/-- The peer view takes the head of the receive queue, or becomes IDLE. -/
theorem State.nextFrame_eq (s : State) : s.nextFrame = { s with
    pvu := { s.pvu with processing := s.bi.rfq.head?.map (fun g => (g, 0)) }
    bi := { s.bi with rfq := s.bi.rfq.tail } } := by
  have h : ({ s with pvu := { s.pvu with processing := none } } : State).pvu.processing = none := rfl
  unfold State.nextFrame
  rw [State.takeFrame_eq, (State.takeFrame_idle h).1, (State.takeFrame_idle h).2]

/-- A ramp step changes the three items of the view and the hand-offs. -/
theorem State.rampStep_eq (s : State) : s.rampStep = { s with
    pvu := { s.pvu with view := s.rampStep.pvu.view, viewStatus := s.rampStep.pvu.viewStatus
                        viewHold := s.rampStep.pvu.viewHold }
    handed := s.rampStep.handed } := by
  have key : ∀ (x : Int) (st : ViewStatus) (hold : Timer) (l : List Instr) (T : State),
      T = { s with pvu := { s.pvu with view := x, viewStatus := st, viewHold := hold }, handed := l } →
      T.viewStep = { s with
        pvu := { s.pvu with view := T.viewStep.pvu.view, viewStatus := T.viewStep.pvu.viewStatus
                            viewHold := T.viewStep.pvu.viewHold }
        handed := T.viewStep.handed } := by
    rintro x st hold l T rfl
    unfold State.viewStep
    split <;> rfl
  unfold State.rampStep
  split
  · exact key _ _ _ _ _ (State.viewSilent_eq s)
  · exact key _ _ _ _ _ rfl

/-- A ramp step hands on a change of the view status and nothing else. -/
theorem State.rampStep_handed (s : State) : s.rampStep.handed = s.handed ++
    if s.rampStep.pvu.viewStatus = s.pvu.viewStatus then [] else [.viewChange s.rampStep.pvu.viewStatus] := by
  have step : ∀ u : State, u.viewStep.handed = u.handed ∧ u.viewStep.pvu.viewStatus = u.pvu.viewStatus := by
    intro u
    unfold State.viewStep
    split <;> exact ⟨rfl, rfl⟩
  have silent : s.viewSilent.handed = s.handed ++
      if s.viewSilent.pvu.viewStatus = s.pvu.viewStatus then [] else [.viewChange s.viewSilent.pvu.viewStatus] := by
    unfold State.viewSilent
    cases h : s.pvu.viewStatus <;> simp [State.setView_eq, h]
  unfold State.rampStep
  rw [(step _).1, (step _).2]
  split
  · exact silent
  · simp

/-- The view of the STEER role at a sweep notice changes the three items of the view and the hand-offs. -/
theorem State.viewSweep_eq (s : State) : s.viewSweep = { s with
    pvu := { s.pvu with view := s.viewSweep.pvu.view, viewStatus := s.viewSweep.pvu.viewStatus
                        viewHold := s.viewSweep.pvu.viewHold }
    handed := s.viewSweep.handed } := by
  unfold State.viewSweep
  repeat' split
  all_goals first | rfl | rw [State.setView_eq] | rw [State.viewSilent_eq]

/-! ## The node state controller -/

/-- The work of a period notice changes the NSC and the hand-offs. -/
theorem State.countPeriod_eq (s : State) : s.countPeriod = { s with nsc := s.countPeriod.nsc, handed := s.countPeriod.handed } := by
  unfold State.countPeriod
  repeat' split
  all_goals rfl

/-- A period notice keeps the conditions and the latches. -/
theorem State.countPeriod_conditions (s : State) :
    s.countPeriod.nsc.present = s.nsc.present ∧ s.countPeriod.nsc.latches = s.nsc.latches := by
  unfold State.countPeriod
  repeat' split
  all_goals exact ⟨rfl, rfl⟩

/-- Clearing latches changes the NSC only. -/
theorem State.clearLatches_eq (s : State) : s.clearLatches = { s with nsc := s.clearLatches.nsc } := rfl

/-! ## The bus interface and the replies -/

/-- An OPEN changes the receiver and hands on at most the link conflict. -/
theorem rxOpen_eq (s : State) (b : Byte) : rxOpen s b = { s with
    bi := { s.bi with rx := (rxOpen s b).bi.rx }, handed := (rxOpen s b).handed } := by
  unfold rxOpen
  repeat' split
  all_goals rfl

/-- A SHUT changes the receiver, the receive queue, the frame in processing and the hand-offs. -/
theorem rxShut_eq (s : State) : rxShut s = { s with
    bi := { s.bi with rx := (rxShut s).bi.rx, rfq := (rxShut s).bi.rfq }
    pvu := { s.pvu with processing := (rxShut s).pvu.processing }
    handed := (rxShut s).handed } := by
  unfold rxShut
  repeat' split
  all_goals first | rfl | (rw [State.offer_eq]; rfl)

/-- Starting to send changes the transmitter, its slots and the frame in flight. -/
theorem State.startSending_eq (s : State) : s.startSending = { s with
    bi := { s.bi with tx := s.startSending.bi.tx, inFlight := s.startSending.bi.inFlight
                      slots := s.startSending.bi.slots } } := by
  unfold State.startSending
  repeat' split
  all_goals rfl

/-- A reply changes the bus interface and the free-value number. -/
theorem State.reply_eq (s : State) (p : List Byte) : s.reply p = { s with bi := (s.fill .report p).bi, free := s.free + 64 } := by
  unfold State.reply
  rw [State.fill_eq]

/-- A QUERY changes the bus interface, the free-value number and its own hand-off. -/
theorem State.query_eq (s : State) (i : Instr) (item index page : Byte) (data : State → Option (List Byte)) :
    s.query i item index page data = { s with
      bi := (s.query i item index page data).bi, free := (s.query i item index page data).free
      handed := s.handed.erase i } := by
  unfold State.query State.answer
  dsimp only
  repeat' split
  all_goals first | rfl | (rw [State.reply_eq]; rfl)

end Sys2Proof.Machine
end

