-- ==== Sys2Proof/Tests/Slice0.lean ====
section
/-! SUPPORT. Tests: an ill-formed command for each check of `WellFormed.lean`, the manual's worked cases, and for each statement
of `Obligations.lean` that has hypotheses a state and operands that meet them. Expected values are the manual's. -/

namespace Sys2Proof.Tests

open Sys2Proof Sys2Proof.Machine

set_option Elab.async false

/-! ## Helpers -/

/-! An image with the reference values: TILT-A at 1, STEER at 2, TILT-B at 4, CONSOLE at 9, DRIVE at 11, SERVICE at 13; its CRC
is worked out by R160. -/

/-- Bytes 0 to 23. -/
def part1 : List Byte :=
  [1, 1, 1, 0, 1, 3, 0, 2, 0, 0, 0, 0, 4, 0, 5, 0, 6, 0, 2, 0, 0, 0, 0, 0]

/-- Bytes 24 to 47. -/
def part2 : List Byte :=
  [50, 0, 73, 0, 100, 0, 147, 0, 150, 0, 223, 0, 200, 1, 47, 0, 250, 1, 133, 1, 44, 1, 225, 1]

/-- Bytes 48 to 71. -/
def part3 : List Byte :=
  [94, 2, 72, 1, 194, 3, 65, 0, 0, 0, 0, 0, 100, 2, 70, 0, 200, 4, 128, 1, 44, 6, 164, 1]

/-- Bytes 72 to 95. -/
def part4 : List Byte :=
  [144, 8, 170, 1, 244, 10, 141, 2, 88, 12, 73, 2, 188, 13, 223, 3, 32, 15, 79, 0, 0, 3, 0, 0]

/-- Bytes 96 to 119. -/
def part5 : List Byte :=
  [100, 2, 128, 0, 200, 2, 0, 1, 144, 1, 128, 3, 32, 1, 0, 6, 64, 0, 192, 100, 0, 2, 128, 46]

/-- Bytes 120 to 143. -/
def part6 : List Byte :=
  [224, 31, 64, 1, 244, 10, 1, 44, 10, 2, 0, 5, 23, 112, 1, 144, 15, 160, 17, 148, 20, 4, 176, 0]

/-- Bytes 144 to 167. -/
def part7 : List Byte :=
  [150, 1, 144, 0, 30, 0, 60, 1, 44, 1, 244, 1, 244, 0, 200, 0, 100, 5, 6, 0, 20, 1, 244, 0]

/-- Bytes 168 to 191. -/
def part8 : List Byte :=
  [100, 130, 160, 3, 160, 5, 120, 12, 142, 0, 25, 4, 0, 0, 129, 27, 1, 44, 0, 50, 0, 200, 182, 249]

/-- The bytes of the image. -/
def imageBytes : List Byte := part1 ++ part2 ++ part3 ++ part4 ++ part5 ++ part6 ++ part7 ++ part8

/-- The image of those bytes. -/
def image : Image := ⟨⟨imageBytes⟩, by decide +kernel⟩

/-- The reference parameters. -/
def prm : Params :=
  { ownRole := .tiltA, p := 2
    curve := [(0, 0), (50, 73), (100, 147), (150, 223), (200, 303), (250, 389), (300, 481), (350, 584), (450, 833)]
    lean := [(0, 0), (100, 582), (200, 1152), (300, 1700), (400, 2218), (500, 2701), (600, 3145), (700, 3551), (800, 3919)]
    assist := [(0, 768), (100, 640), (200, 512), (400, 384), (800, 256), (1600, 192)]
    kp := 25600, kd := 640, tauMax := 12000, tRated := 8000, tauTol := 500, nX := 10, voteTol := 300, nVote := 10
    kC := 512, nC := 5, tauSMax := 6000, deltaSoft := 400, phiMax := 4000, phiStop := 4500, sMax := 20, aMax := 1200
    vFl := 150, vFh := 400, vStand := 30, vUnlock := 60, vFree := 300, vCouple := 500, tStand := 500, hV := 200
    hDelta := 100, rDelta := 5, fresh := 6, stale := 20, tJoin := 500, tDormant := 10000, td1 := 90, td2 := 120, nHold := 3
    pulseWired := true, teeth := 32, circ := 1400, spdOffset := 12, spdSigned := true, spdWidth := 14, spdMult := 25
    spdShift := 4, spdBias := 0, valPresent := true, valSense := true, valOffset := 27, wake := 300, tolPark := 50
    omegaPark := 200 }

/-- The roster of the image. -/
def roster : Vector Role 15 :=
  ⟨#[.absent, .tiltA, .steer, .absent, .tiltB, .absent, .absent, .absent, .absent, .console, .absent, .drive, .absent,
     .service, .absent], rfl⟩

/-- TILT-A at address 1 in a node state, nothing read or heard yet. -/
def tilt (n : NodeState) : State :=
  { State.reset with
    clock := 1000000, cl := ⟨.good, 1, none⟩, prm := prm, le := { Le.reset with periodTimer := some 0 }
    pvu := { Pvu.reset with roster := roster }, nsc := { Nsc.reset with node := n, flt := n.faulted }
    bi := { Bi.reset with rx := .hunt, tx := .idle } }

/-- STEER at address 2 in a node state. -/
def steer (n : NodeState) : State :=
  { tilt n with cl := ⟨.good, 2, none⟩, prm := { prm with ownRole := .steer } }

/-- A GOOD record of a value. -/
def good (x : Int) : Sample := ⟨.good, some x, some x, 999000, 0, 16, .none⟩

/-- A node that has read its lean and rate (or angle and torque), and its temperature. -/
def withRecords (s : State) (a b temp : Int) : State :=
  { s with mu := { s.mu with records := ⟨good a, good b, good a, good b, good temp⟩ } }

/-- A node with a consensus speed that the LE and the NSC have taken. -/
def withSpeed (s : State) (v : Nat) (st : SpeedStatus) : State :=
  { s with pvu := { s.pvu with speed := v, speedStatus := st }, le := { s.le with speed := ⟨v, st⟩ }
           nsc := { s.nsc with speed := ⟨v, st⟩ } }

/-- A node with a handlebar view. -/
def withView (s : State) (x : Int) (st : ViewStatus) : State := { s with pvu := { s.pvu with view := x, viewStatus := st } }

/-- A node with an override stack. -/
def withStack (s : State) (l : List Entry) : State := { s with le := { s.le with stack := l } }

/-- A node with a brake state and a switch, the timer of the state at its limit. -/
def withBrake (s : State) (b : BrakeState) (sw : Switch) : State :=
  { s with bcu := ⟨b, b.coilOn, sw, b.wanted, b.limit.map (fun l => (l, l.us)), 0, 0, none⟩ }

/-- A CONTRIB of a role and a node state. -/
def contrib (role node : BitVec 4) (phiT phiM tau : Int) (w : Byte) : Contrib :=
  { role := role, nodeState := node, primary := 0, present := 0, phiT := BitVec.ofInt 16 phiT, phiM := BitVec.ofInt 16 phiM,
    tauD := BitVec.ofInt 16 tau, share := 0, w := w, saturated := false, driver := false, switch := 0, speedStatus := 0,
    dormantReady := false, ramping := false, pulse := 0xFFFF, depth := 0, refusal := 0, topTag := 0 }

/-- A row that holds a CONTRIB of a given age in µs. -/
def heard (s : State) (a : Nat) (c : Contrib) (us : Nat) : State :=
  s.setRow a { s.row a with contrib := some (c, s.clock - BitVec.ofNat 32 us) }

/-- The state a command leaves, and the state as it was where it leaves none. -/
def after (c : Instr) (s : State) : State := match exec c s with | .next t => t | _ => s

/-- An entry of the console at address 9. -/
def entry (tag : Byte) (k : OverrideKind) (angle : Option Int) (n : Nat) (marked : Bool) : Entry :=
  ⟨tag, k, angle, .finite n, some 9, marked⟩

/-- The new-target record of the turn at 8 m/s (1.4). -/
def turn : TargetRecord := ⟨2020, 10000, 0, 0, .accepted⟩

/-- A sweep notice with GOOD records. -/
def notice : SweepNotice := ⟨1000000, .good, .good, .good, some 0⟩

/-- The head of a command of the SERVICE station at 13 to the node at 1. -/
def asked : ServiceHead := ⟨13, .service, 1⟩

/-! ## Each check refuses an ill-formed command -/

theorem test_wf_override_source : Instr.wf (.overrideRequest 15 .console 7 1 0 1) = false := by decide
theorem test_wf_override_role : Instr.wf (.overrideRequest 9 .drive 7 1 0 1) = false := by decide
theorem test_wf_release_source : Instr.wf (.releaseRequest 15 7 .console) = false := by decide
theorem test_wf_release_role : Instr.wf (.releaseRequest 9 7) = false := by decide
theorem test_wf_speed_le : Instr.wf (.speedStatusChangeLe 2501 .valid) = false := by decide
theorem test_wf_speed_bcu : Instr.wf (.speedStatusChangeBcu 2501 .valid) = false := by decide
theorem test_wf_speed_nsc : Instr.wf (.speedStatusChangeNsc 2501 .valid) = false := by decide
theorem test_wf_state_same : Instr.wf (.nodeStateChangeLe .active .active) = false := by decide
theorem test_wf_state_start : Instr.wf (.nodeStateChangeBcu .active .start) = false := by decide
theorem test_wf_target_lean : Instr.wf (.newTargetArrivalTsu ⟨4501, 0, 0, 0, .accepted⟩) = false := by decide
theorem test_wf_target_rate : Instr.wf (.newTargetArrivalTsu ⟨0, -30001, 0, 0, .accepted⟩) = false := by decide
theorem test_wf_target_depth : Instr.wf (.newTargetArrivalSlu ⟨0, 0, 5, 7, .accepted⟩) = false := by decide
theorem test_wf_target_tag : Instr.wf (.newTargetArrivalSlu ⟨0, 0, 0, 7, .accepted⟩) = false := by decide
theorem test_wf_sweep_record : Instr.wf (.sweepNoticePvu { notice with second := .absent }) = false := by decide
theorem test_wf_sweep_wheel : Instr.wf (.sweepNoticeNsc { notice with wheelSpeed := some 2501 }) = false := by decide
theorem test_wf_top_angle : Instr.wf (.topChangeNoticeBcu (some ⟨7, .upright, some 0⟩)) = false := by decide
theorem test_wf_top_no_angle : Instr.wf (.topChangeNoticeNsc (some ⟨7, .park, none⟩)) = false := by decide
theorem test_wf_temp_low : Instr.wf (.conversionComplete (-61)) = false := by decide
theorem test_wf_temp_high : Instr.wf (.conversionComplete 161) = false := by decide
theorem test_wf_report_kind : Instr.wf (.conditionReport .sensorFailed true) = false := by decide
theorem test_wf_report_absent : Instr.wf (.conditionReport .linkConflict false) = false := by decide
theorem test_wf_halt_source : Instr.wf (.haltHandoff 15 1 1 .tiltA) = false := by decide
theorem test_wf_halt_role : Instr.wf (.haltHandoff 9 1 1 .absent) = false := by decide
theorem test_wf_notice_source : Instr.wf (.frameNotice 15 .rider) = false := by decide
theorem test_wf_notice_kind : Instr.wf (.frameNotice 4 .report) = false := by decide
theorem test_wf_open : Instr.wf (.openMark 0xC0) = false := by decide
theorem test_wf_unnamed_low : Instr.wf (.unnamedMark 0xCF) = false := by decide
theorem test_wf_unnamed_high : Instr.wf (.unnamedMark 0xFF) = false := by decide
theorem test_wf_query_source : Instr.wf (.queryStack 0 0 ⟨15, .service, 1⟩) = false := by decide
theorem test_wf_query_role : Instr.wf (.queryStack 0 0 ⟨13, .console, 1⟩) = false := by decide
theorem test_wf_query_dest : Instr.wf (.queryStack 0 0 ⟨13, .service, 16⟩) = false := by decide
theorem test_wf_query_item : Instr.wf (.queryUnknownItem 8 0 0 asked) = false := by decide
theorem test_wf_clear_head : Instr.wf .clearLatches = false ∧ Instr.wf .clearRestart = false := by decide
theorem test_wf_clear_action : Instr.wf (.clearUnknownAction 2 asked) = false := by decide
theorem test_wf_well_formed : Instr.wf (.overrideRequest 13 .service 7 1 0 0) = true ∧ Instr.wf (.queryUnknownItem 9 0 0 asked) = true ∧
    Instr.wf (.conditionReport .overlean false) = true ∧ Instr.wf (.openMark 0xBF) = true ∧
    Instr.wf (.releaseRequest 9 7 .console) = true ∧ Instr.wf (.haltHandoff 9 1 1 .console) = true ∧
    Instr.wf (.clearLatches asked) = true := by decide

theorem image_crc1 : crcBytes 0xffff#16 part1 = 0x7202#16 := by decide +kernel
theorem image_crc2 : crcBytes 0x7202#16 part2 = 0xa1e6#16 := by decide +kernel
theorem image_crc3 : crcBytes 0xa1e6#16 part3 = 0x4dd2#16 := by decide +kernel
theorem image_crc4 : crcBytes 0x4dd2#16 part4 = 0x34b0#16 := by decide +kernel
theorem image_crc5 : crcBytes 0x34b0#16 part5 = 0xad37#16 := by decide +kernel
theorem image_crc6 : crcBytes 0xad37#16 part6 = 0x680#16 := by decide +kernel
theorem image_crc7 : crcBytes 0x680#16 part7 = 0xb85a#16 := by decide +kernel
theorem image_crc8 : crcBytes 0xb85a#16 part8 = 0x0#16 := by decide +kernel

theorem test_image_crc : imageCrcGood image = true := by
  have h : image.toList = imageBytes := rfl
  unfold imageCrcGood
  rw [h, imageBytes]
  simp only [crcBytes, List.foldl_append] at *
  simp only [← crcBytes.eq_1]
  rw [crcInit, image_crc1, image_crc2, image_crc3, image_crc4, image_crc5, image_crc6, image_crc7, image_crc8]
  rfl

/-! The same image for STEER at address 2. -/

/-- Bytes 0 to 23 of the image for STEER. -/
def steerPart1 : List Byte :=
  [1, 3, 2, 0, 1, 3, 0, 2, 0, 0, 0, 0, 4, 0, 5, 0, 6, 0, 2, 0, 0, 0, 0, 0]

/-- Bytes 168 to 191 of the image for STEER. -/
def steerPart8 : List Byte :=
  [100, 130, 160, 3, 160, 5, 120, 12, 142, 0, 25, 4, 0, 0, 129, 27, 1, 44, 0, 50, 0, 200, 1, 196]

/-- The bytes of the image for STEER. -/
def steerBytes : List Byte := steerPart1 ++ part2 ++ part3 ++ part4 ++ part5 ++ part6 ++ part7 ++ steerPart8

/-- The image for STEER. -/
def steerImage : Image := ⟨⟨steerBytes⟩, by decide +kernel⟩

theorem steer_crc1 : crcBytes 0xffff#16 steerPart1 = 0xe7c#16 := by decide +kernel
theorem steer_crc2 : crcBytes 0xe7c#16 part2 = 0xc329#16 := by decide +kernel
theorem steer_crc3 : crcBytes 0xc329#16 part3 = 0xd37d#16 := by decide +kernel
theorem steer_crc4 : crcBytes 0xd37d#16 part4 = 0x8c5c#16 := by decide +kernel
theorem steer_crc5 : crcBytes 0x8c5c#16 part5 = 0x49b2#16 := by decide +kernel
theorem steer_crc6 : crcBytes 0x49b2#16 part6 = 0x1b0a#16 := by decide +kernel
theorem steer_crc7 : crcBytes 0x1b0a#16 part7 = 0xfa83#16 := by decide +kernel
theorem steer_crc8 : crcBytes 0xfa83#16 steerPart8 = 0x0#16 := by decide +kernel

theorem test_steer_image_crc : imageCrcGood steerImage = true := by
  have h : steerImage.toList = steerBytes := rfl
  unfold imageCrcGood
  rw [h, steerBytes]
  simp only [crcBytes, List.foldl_append] at *
  simp only [← crcBytes.eq_1]
  rw [crcInit, steer_crc1, steer_crc2, steer_crc3, steer_crc4, steer_crc5, steer_crc6, steer_crc7, steer_crc8]
  rfl
theorem test_steer_image_params : paramsOf steerImage = { prm with ownRole := .steer } := by decide +kernel
theorem test_steer_image_good : imageGood steerImage 2 = true := by
  unfold imageGood
  rw [test_steer_image_crc, test_steer_image_params]
  decide +kernel

/-! ## The image (10.1, 10.5) -/

theorem test_image_params : paramsOf image = prm := by decide +kernel
theorem test_image_roster : rosterOf image = roster := by decide +kernel
theorem test_image_good : imageGood image 1 = true := by
  unfold imageGood
  rw [test_image_crc, test_image_params]
  decide +kernel
theorem test_image_wrong_straps : imageGood image 2 = false := by
  have h : imageAddressGood image 2 = false := by decide +kernel
  unfold imageGood
  rw [h, Bool.and_false]
  rfl

/-! ## Worked cases -/

-- 1.2, the worked interpolation.
theorem test_interp_rising : interp prm.curve 40 = 58 ∧ interp prm.curve 100 = 147 ∧ interp prm.curve 400 = 708 ∧
    interp prm.curve 450 = 833 ∧ interp prm.lean 371 = 2067 ∧ interp prm.lean 1200 = 3919 := by decide +kernel
theorem test_interp_falling : interp prm.assist 210 = 506 ∧ interp prm.assist 300 = 448 := by decide +kernel

/-- The turn at 8 m/s (1.4). -/
def turning (x prev : Int) : State :=
  let s := withView (withSpeed (tilt .active) 800 .valid) x .live
  { s with le := { s.le with prev := prev, lastRun := some .active } }
theorem test_lean_stages : (turning 40 2000).s2 = 58 ∧ (turning 40 2000).s3 = 371 ∧ (turning 40 2000).s4 = 2067 ∧
    (turning 40 2000).s5 = 2067 ∧ (turning (-40) 2000).s5 = -2067 := by decide +kernel
theorem test_period_expiry_turn : (after .periodExpiry (turning 40 2000)).le.phiT = 2020 ∧
    (after .periodExpiry (turning 40 2000)).le.omegaT = 10000 ∧ (after .periodExpiry (turning 40 2060)).le.omegaT = 3500 ∧
    .newTargetArrivalTsu turn ∈ (after .periodExpiry (turning 40 2000)).handed := by decide +kernel
-- 1.5, the low-speed fade and full lock.
theorem test_fade : (withView (withSpeed (tilt .active) 250 .valid) 100 .live).s5 = 211 ∧
    (withView (withSpeed (tilt .active) 250 .valid) (-100) .live).s5 = -211 ∧
    (withView (withSpeed (tilt .active) 2500 .valid) 480 .live).s3 = 1200 ∧
    (withView (withSpeed (tilt .active) 2500 .valid) 480 .live).s4 = 3919 := by decide +kernel
-- 1.5, override resolution: rows 2, 4, 5, 7 and 9.
theorem test_resolution :
    resolveStack 2067 [entry 7 .limit (some 1500) 50 false] = 1500 ∧
    resolveStack 2067 [entry 7 .limit (some 500) 50 false, entry 9 .hold (some (-800)) 9 false] = -500 ∧
    resolveStack 2067 [entry 9 .hold (some 800) 9 false, entry 7 .limit (some 500) 50 false] = 800 ∧
    resolveStack 2067 [entry 7 .limit (some 300) 50 false, entry 8 .upright none 9 false, entry 9 .hold (some 800) 9 false] = 0 ∧
    resolveStack 2067 [entry 7 .limit (some 200) 50 false, entry 9 .park (some (-320)) 9 false] = -200 := by decide +kernel

/-- The stack after step 6 of 2.7. -/
def parked : List Entry :=
  [entry 9 .park (some (-6)) 30000 false, entry 7 .limit (some 1500) 40 false, ⟨240, .hold, some (-6), .forever 50, none, false⟩]
/-- The node of 2.7: standing, its body at −6. -/
def standing (l : List Entry) : State := withStack (withSpeed (withRecords (tilt .active) (-6) 0 40) 0 .valid) l
-- R36: the expiry at which the top's count runs out gives the notice of the entry that surfaces, and the one before gives none.
theorem test_count_out_notice :
    (let s (n : Nat) := after .periodExpiry (standing [entry 9 .park (some (-6)) n false, entry 7 .limit (some 1500) 40 false])
     .topChangeNoticeNsc (some ⟨7, .limit, some 1500⟩) ∈ (s 1).handed ∧
       ∀ i ∈ (s 2).handed, i ≠ .topChangeNoticeNsc (some ⟨9, .park, some (-6)⟩)) := by decide +kernel
-- 2.7, steps 7 and 8: the RELEASE of 7 marks it; the RELEASE of 9 pops it and what surfaces marked.
theorem test_release_marks : (after (.releaseRequest 9 7) (standing parked)).le.stack.map (fun e => (e.tag, e.pending)) =
    [(9, false), (7, true), (240, false)] := by decide +kernel
theorem test_release_cascade :
    (after (.releaseRequest 9 9) (after (.releaseRequest 9 7) (standing parked))).le.stack.map (fun e => e.tag) = [240] := by
  decide +kernel
-- 2.7, steps 3 to 9: the dwell starts when the PARK leaves, the auto-HOLD is pushed, and motion empties the stack.
theorem test_dwell_starts : (after (.releaseRequest 9 241)
    (standing [⟨241, .park, some (-320), .forever 2000, none, false⟩])).le.dwell = some 0 := by decide +kernel
theorem test_auto_hold : (after .autoLockDwellExpiry { standing [] with le := { (standing []).le with dwell := some 500000 } }).le.stack =
    [⟨240, .hold, some (-6), .forever 0, none, false⟩] := by decide +kernel
theorem test_motion : (after (.speedStatusChangeLe 65 .valid)
    (standing [⟨240, .hold, some (-6), .forever 550, none, false⟩])).le.stack = [] := by decide +kernel
theorem test_join_parks : (after (.nodeStateChangeLe .listen .active)
    (withRecords (tilt .active) (-320) 0 40)).le.stack = [⟨241, .park, some (-320), .forever 0, none, false⟩] := by decide +kernel
-- 2.8, the worked refusals.
theorem test_override_refused :
    (after (.overrideRequest 9 .console 7 1 500 100) (standing parked)).le.lastRefusal = .tagConflict ∧
    (after (.overrideRequest 9 .console 12 1 500 0) (standing parked)).le.lastRefusal = .countZero ∧
    (after (.overrideRequest 9 .console 15 3 0 9) (withSpeed (standing parked) 120 .valid)).le.lastRefusal = .parkMoving ∧
    (after (.overrideRequest 13 .service 250 1 0 10) (standing parked)).le.lastRefusal = .tagConflict := by decide +kernel
-- R38, the order of a PARK request and of the change to HELD that waits: what the LE takes first decides.
theorem test_park_before_held :
    let s : State := { standing [] with pvu := { (standing []).pvu with speedStatus := .held } }
    let park : Instr := .overrideRequest 9 .console 15 3 0 9
    (after park s).le.lastRefusal = .accepted ∧
    (after park (after (.speedStatusChangeLe 0 .held) s)).le.lastRefusal = .parkMoving := by decide +kernel
theorem test_override_push :
    (after (.overrideRequest 13 .service 12 1 5000 0) (standing parked)).le.stack.head? =
      some ⟨12, .hold, some 4000, .forever 0, some 13, false⟩ ∧
    (after (.overrideRequest 9 .console 14 2 0 100)
      (after (.overrideRequest 13 .service 12 1 5000 0) (standing parked))).le.lastRefusal = .stackFull ∧
    (after (.overrideRequest 9 .console 7 4 900 50) (standing parked)).le.stack[1]? =
      some (entry 7 .limit (some 1500) 50 false) := by decide +kernel

/-- TILT-A of 3.12, with TILT-B FRESH and ACTIVE at a weight and a demand. -/
def sharing (temp : Int) (w : Byte) (tauB : Int) (us : Nat) : State :=
  let s := withBrake (withRecords (tilt .active) 1990 9500 temp) .released .released
  heard { s with tsu := { s.tsu with ramp := .complete, factor := 1000 } } 4 (contrib 2 2 2020 1990 tauB w) us
-- 3.12, the healthy, the stale and the AGING partner.
theorem test_share_healthy : (after (.newTargetArrivalTsu turn) (sharing 80 60 4250 1000)).tsu.share = 2656 ∧
    (after (.newTargetArrivalTsu turn) (sharing 80 60 4250 1000)).drive = ⟨true, some 632⟩ ∧
    (after (.newTargetArrivalTsu turn) (sharing 80 60 4250 15000)).tsu.share = 2656 := by decide +kernel
theorem test_share_stale : (after (.newTargetArrivalTsu turn) (sharing 80 60 4250 25000)).tsu.share = 4250 ∧
    (after (.newTargetArrivalTsu turn) (sharing 80 60 4250 25000)).drive = ⟨true, some 712⟩ ∧
    .conditionReport .partnerAbsent true ∈ (after (.newTargetArrivalTsu turn) (sharing 80 60 4250 25000)).handed := by
  decide +kernel
-- 3.12, the disagreeing partner: the tenth comparison halves the limit.
theorem test_share_disagree :
    (after (.newTargetArrivalTsu turn) { sharing 105 20 3630 1000 with
      tsu := { (sharing 105 20 3630 1000).tsu with disagreeRun := 9 } }).tsu.share = 2000 ∧
    (after (.newTargetArrivalTsu turn) { sharing 105 20 3630 1000 with
      tsu := { (sharing 105 20 3630 1000).tsu with disagreeRun := 9 } }).drive = ⟨true, some 600⟩ := by decide +kernel
theorem test_share_ties : shareRaw 4251 50 50 = 2126 ∧ shareRaw (-4251) 50 50 = -2126 ∧ shareRaw 4250 60 100 = 1594 ∧
    shareRaw 4250 19 100 = 679 ∧ shareRaw 4250 99 100 = 2114 := by decide +kernel
-- 3.12, the torque release: 25 arrivals in ENGAGING, and 13 from 500 to 1000.
theorem test_release_factor : (factorAfter 2 .engaging)^[25] 1000 = 500 ∧ (factorAfter 2 .releasing)^[13] 500 = 1000 ∧
    (factorAfter 2 .releasing)^[12] 500 = 980 := by decide +kernel
-- R49: a join ramp begins at LISTEN to ACTIVE.
theorem test_join_ramp : (after (.nodeStateChangeTsu .listen .active) (tilt .active)).tsu.ramp = .running 1000000 ∧
    (after (.nodeStateChangeTsu .active .free) { sharing 80 60 4250 1000 with drive := ⟨true, some 632⟩ }).drive = ⟨false, none⟩ := by
  decide +kernel

-- R64: an arrival that finds FREE, the change to it still waiting, finds the ramp IDLE; one that finds ACTIVE after LISTEN, RUNNING.
theorem test_waiting_change :
    (let s := sharing 80 60 4250 1000
     let t := after (.newTargetArrivalTsu turn) { s with nsc := { s.nsc with node := .free }
                                                         handed := [.nodeStateChangeTsu .active .free] }
     t.tsu.ramp = .idle ∧ t.tsu.wJoin = 0 ∧ t.drive = ⟨false, none⟩ ∧ t.handed.all (fun i => (tsuChange i).isNone) = true) ∧
    (after (.newTargetArrivalTsu turn) { tilt .active with handed := [.nodeStateChangeTsu .listen .active] }).tsu.ramp =
      .running 1000000 := by decide +kernel

/-- STEER of 5.8: a speed, an angle and a rider torque. -/
def steering (v : Nat) (d tau : Int) : State := withRecords (withSpeed (steer .active) v .valid) d tau 40
-- 5.8, assist across speed.
theorem test_assist : (after (.newTargetArrivalSlu turn) (steering 300 0 250)).slu.tauS = 437 ∧
    (after (.newTargetArrivalSlu turn) (steering 300 0 250)).drive = ⟨true, some 529⟩ ∧
    (after (.newTargetArrivalSlu turn) (steering 300 0 (-250))).slu.tauS = -438 ∧
    (after (.newTargetArrivalSlu turn) (steering 300 0 (-250))).drive = ⟨true, some 471⟩ := by decide +kernel
-- 5.8, coupling at arrival 6: both tilt rows saturated, the runs at 5 and 4.
theorem test_coupling :
    let row (node : BitVec 4) (phiM : Int) : Contrib := { contrib node 2 2020 phiM 0 100 with saturated := true }
    let s := heard (heard (steering 900 60 400) 1 (row 1 1890) 1000) 4 (row 2 1900) 1000
    let t := after (.newTargetArrivalSlu turn) { s with slu := { s.slu with runA := 5, runB := 4 } }
    t.slu.coupling = true ∧ t.slu.phiTilt = some 1895 ∧ t.slu.tauC = -250 ∧ t.slu.tauS = 137 ∧ t.drive = ⟨true, some 509⟩ := by
  decide +kernel
-- 5.8, the soft stop.
theorem test_soft_stop : (steering 300 410 0).softStops 300 = true ∧ (steering 300 410 0).softStops (-300) = false ∧
    (steering 300 400 0).softStops 1 = true ∧ (steering 300 399 0).softStops 300 = false ∧
    (steering 300 (-420) 0).softStops (-250) = true ∧ (steering 300 (-420) 0).softStops 137 = false := by decide +kernel
theorem test_slu_low : (after (.nodeStateChangeSlu .active .free) { steer .free with drive := ⟨true, some 509⟩ }).drive =
    ⟨false, none⟩ := by decide +kernel
-- 5.8, the failing handlebar sensor: +120 is sent while HELD, and nothing while FAILED.
theorem test_rider_fill :
    let s := steering 300 120 0
    let s : State := { s with mu := { s.mu with records := { s.mu.records with angle := { s.mu.records.angle with state := .held } } } }
    (after (.sweepNoticeSlu notice) s).bi.slots.rider = some ⟨[0, 120, 0, 0, 0x10, 2], 0⟩ ∧
    (after (.sweepNoticeSlu notice) { s with mu := { s.mu with
      records := { s.mu.records with angle := { s.mu.records.angle with state := .failed } } } }).bi.slots.rider = none := by
  decide +kernel

-- 4.9 and 4.10: the brake.
theorem test_brake_held_off : (after .tBrakeExpiry (heard (withBrake (tilt .active) .engaging .released) 4
    { contrib 2 2 0 0 0 100 with driver := true } 1000)).bcu.state = .heldOff := by decide +kernel
theorem test_brake_stuck :
    let s := withBrake (tilt .active) .engaging .released
    let alone : State := { s with pvu := { s.pvu with roster := Vector.set roster 4 .absent } }
    (after .tBrakeExpiry alone).bcu.state = .stuck ∧
      .conditionReport .brakeStuck true ∈ (after .tBrakeExpiry alone).handed := by decide +kernel
theorem test_brake_switch : (after (.switchChange true false) (withBrake (tilt .active) .engaging .between)).bcu.state = .engaged ∧
    (after (.switchChange false true) (withBrake (tilt .active) .releasing .between)).bcu.state = .released ∧
    (after (.switchChange false false) (withBrake (tilt .active) .engaging .released)).bcu.state = .engaging := by decide +kernel
theorem test_brake_preload : (after .tPreloadExpiry (withBrake (tilt .active) .preload .engaged)).bcu.state = .releasing ∧
    (after .tPreloadExpiry (withBrake (tilt .active) .preload .released)).bcu.state = .released := by decide +kernel
theorem test_brake_demand :
    let s := withSpeed (withRecords (withBrake (tilt .active) .released .released) (-6) 40 40) 0 .valid
    (after (.topChangeNoticeBcu (some ⟨9, .park, some (-6)⟩)) s).bcu.state = .engaging ∧
    (after (.topChangeNoticeBcu (some ⟨240, .hold, some (-6)⟩)) (withBrake s .engaged .engaged)).bcu.state = .preload := by
  decide +kernel
-- R81, row 4: the demand goes ON in ENGAGING first; the T_brake expiry queued behind it meets the timer started again at 0.
theorem test_brake_expiry_overtaken :
    let s := after (.topChangeNoticeBcu none) (withBrake (tilt .active) .engaging .between)
    s.bcu.state = .releasing ∧ (after .tBrakeExpiry s).bcu.state = .releasing ∧ (after .tBrakeExpiry s).handed = [] := by
  decide +kernel
theorem test_brake_leaves_stuck :
    let s := withBrake (withStack (tilt .listen) []) .stuck .engaged
    (after (.sweepNoticeBcu notice) { s with bcu := { s.bcu with agreeRun := 2 } }).bcu.state = .engaged ∧
    (after (.sweepNoticeBcu notice) { s with bcu := { s.bcu with agreeRun := 1 } }).bcu.agreeRun = 2 := by decide +kernel

/-- A sweep in a state, its sensor transaction at the limit of its wait. -/
def sweeping (s : State) (n : Sweep) : State :=
  { s with mu := { s.mu with sweep := n, readyTimer := if n.waits then some 40 else none } }
-- R105: the four words of the table, and a word with a wrong check.
theorem test_ready_words :
    (after (.readyEvent 0xFEC009) (sweeping (tilt .active) .running1)).mu.buffer = [⟨.none, some (-320)⟩] ∧
    (after (.readyEvent 0x251C04) (sweeping (tilt .active) .running2)).mu.buffer = [⟨.none, some 9500⟩] ∧
    (after (.readyEvent 0x00FA09) (sweeping (steer .active) .running2)).mu.buffer = [⟨.none, some 250⟩] ∧
    (after (.readyEvent 0x02080A) (sweeping (steer .active) .running1)).mu.buffer = [⟨.range, some 520⟩] := by decide +kernel
theorem test_ready_misses :
    (after (.readyEvent 0xFEC208) (sweeping (tilt .active) .running1)).mu.buffer = [⟨.check, some (-318)⟩] ∧
    (after .readyTimeout (sweeping (tilt .active) .running1)).mu.buffer = [⟨.timeout, none⟩] ∧
    (after (.readyEvent 0xFEC009) (after .readyTimeout (sweeping (tilt .active) .running1))).mu.sweep = .running3 := by
  decide +kernel
theorem test_sweep_begins : (after .sweepTimerExpiry (tilt .active)).mu.sweep = .running1 ∧
    (after .sweepTimerExpiry (tilt .dormant)).mu.sweep = .idle := by decide +kernel
-- 6.7, the worked wheel speed.
def rolling (g d : Nat) : State :=
  let s := sweeping (tilt .active) .running3
  { s with mu := { s.mu with buffer := [⟨.none, some 0⟩, ⟨.none, some 0⟩], edgeCount := 2, t1 := s.clock - BitVec.ofNat 32 g,
                             t0 := s.clock - BitVec.ofNat 32 g - BitVec.ofNat 32 d } }
theorem test_wheel_speed : (after (.conversionComplete 40) (rolling 1200 5469)).mu.wheelSpeed = some 799 ∧
    (after (.conversionComplete 40) (rolling 8000 5469)).mu.wheelSpeed = some 546 ∧
    (after (.conversionComplete 40) (rolling 499999 5469)).mu.wheelSpeed = some 8 ∧
    (after (.conversionComplete 40) (rolling 500000 5469)).mu.wheelSpeed = some 0 := by decide +kernel
theorem test_wheel_edge : (after .wheelEdge (tilt .active)).mu.edgeCount = 1 ∧
    (after .wheelEdge { rolling 19 5469 with pending := [] }).mu = (rolling 19 5469).mu := by decide +kernel
-- 6.11, sweeps 4 to 8.
theorem test_record_walk :
    let miss (c : MissCause) (q : Sample) : Sample := q.apply 3 5 ⟨c, none⟩
    let q := (good (-318)).apply 3 4 ⟨.none, some (-318)⟩
    (miss .timeout (miss .timeout (miss .check q))).state = .held ∧
    (miss .timeout (miss .timeout (miss .timeout (miss .check q)))).state = .failed ∧
    (miss .timeout (miss .timeout (miss .timeout (miss .check q)))).lastGood = some (-318) := by decide +kernel

-- 7.4, the worked extraction.
theorem test_speed_extraction : extractSpeed prm [0xA0, 0x2F, 0x80, 0x15] = some 800 ∧
    extractSpeed prm [0xA0, 0x2F, 0x7F, 0xD5] = some 802 ∧ extractSpeed prm [0xA0, 0x2F, 0x80] = none ∧
    extractSpeed prm [0xA0, 0x2F, 0x80, 0x05] = none := by decide +kernel
-- 7.5, the worked consensus cases 1 to 3 and 6.
theorem test_consensus : consensusOf [812, 790, 805] = some (805, .valid) ∧ consensusOf [812, 790] = some (801, .valid) ∧
    consensusOf [812, 790, 805, 800] = some (802, .valid) ∧ consensusOf [812] = some (812, .single) := by decide +kernel
-- 7.5, the worked loss: HELD when no candidate is used, LOST at the hold expiry.
theorem test_speed_held : (after (.sweepNoticePvu notice) (withSpeed (tilt .active) 238 .valid)).pvu.speedStatus = .held ∧
    (after .speedHoldExpiry { withSpeed (tilt .active) 238 .held with
      pvu := { (withSpeed (tilt .active) 238 .held).pvu with speedHold := some 200000 } }).pvu.speedStatus = .lost := by
  decide +kernel
-- 7.6, the worked hold and ramp.
theorem test_view_ramp : (after .handlebarRampStep (withView (tilt .active) 120 .live)).pvu.viewStatus = .held ∧
    (after .handlebarRampStep (withView (tilt .active) 120 .ramping)).pvu.view = 115 ∧
    (after .handlebarHoldExpiry { withView (tilt .active) 120 .held with
      pvu := { (withView (tilt .active) 120 .held).pvu with viewHold := some 100000 } }).pvu.viewStatus = .ramping := by
  decide +kernel
/-- A frame in processing. -/
def taking (s : State) (src : Addr) (k : FrameKind) (payload : List Byte) : State :=
  { s with pvu := { s.pvu with processing := some (⟨src, k, none, payload, s.clock⟩, 3) } }
theorem test_rider_taken : (after .frameDone (taking (tilt .active) 2 .rider [0, 120, 0, 0, 0, 2])).pvu.view = 120 ∧
    (after .frameDone (taking (tilt .active) 2 .rider [0, 120, 0, 0, 0, 2])).pvu.viewStatus = .live := by decide +kernel
theorem test_release_taken : (after .frameDone (taking (tilt .active) 9 .release [0xF1])).handed.head? =
    some (.releaseRequest 9 0xF1 .console) := by decide +kernel
theorem test_row_sweep : ((after .rowSweepExpiry (heard (tilt .active) 4 (contrib 2 2 0 0 0 0) 30000000)).row 4).contrib.isSome = true ∧
    ((after .rowSweepExpiry (heard (tilt .active) 4 (contrib 2 2 0 0 0 0) 30000001)).row 4).contrib = none := by decide +kernel

-- 8.9 and R146: a bridge fault at 8 m/s and at 1 m/s.
theorem test_bridge_fault :
    (after (.bfltChange true) (withSpeed (tilt .active) 800 .valid)).nsc.node = .free ∧
    (after (.bfltChange true) (withSpeed (tilt .active) 100 .valid)).nsc.node = .clamped ∧
    (after (.bfltChange true) (withSpeed (tilt .active) 100 .valid)).nsc.flt = true := by decide +kernel
theorem test_sensor_failed : (after (.sweepNoticeNsc { notice with first := .failed })
    (withSpeed (tilt .degraded) 800 .valid)).nsc.node = .free := by decide +kernel
-- R153, row 5: a report taken before the change to v_free finds CLAMPED, and the change then gives FREE.
theorem test_report_before_speed :
    let s : State := { withSpeed (tilt .active) 299 .valid with pvu := { (withSpeed (tilt .active) 299 .valid).pvu with speed := 300 } }
    (after (.conditionReport .overlean true) s).nsc.node = .clamped ∧
    (after (.speedStatusChangeNsc 300 .valid) (after (.conditionReport .overlean true) s)).nsc.node = .free := by decide +kernel
theorem test_speed_lost : (after (.speedStatusChangeNsc 238 .lost) (withSpeed (tilt .active) 238 .lost)).nsc.node = .clamped ∧
    (after (.speedStatusChangeNsc 300 .valid) (withSpeed (tilt .clamped) 300 .valid)).nsc.node = .free := by decide +kernel
theorem test_view_degrades : (after (.viewChange .held) (withSpeed (withRecords (tilt .active) 0 0 40) 0 .valid)).nsc.node =
    .degraded := by decide +kernel
theorem test_overlean : (after (.conditionReport .overlean true) (withSpeed (tilt .active) 0 .valid)).bi.slots.halt = some ⟨[1, 1], 0⟩ ∧
    (after (.conditionReport .overlean true) (withSpeed (tilt .active) 0 .valid)).nsc.node = .clamped := by decide +kernel
theorem test_halt : (after (.haltHandoff 13 4 7) (withSpeed (tilt .dormant) 0 .valid)).nsc.lastHalt = some ⟨13, 4, 7⟩ ∧
    (after (.haltHandoff 13 4 7) (withSpeed (tilt .dormant) 0 .valid)).nsc.node = .clamped := by decide +kernel
theorem test_rejoin : (after .rejoinTimerExpiry { tilt .free with
    nsc := { (tilt .free).nsc with rejoin := some 1000000 } }).nsc.node = .listen := by decide +kernel
-- R149: the change from CLAMPED to FREE starts the rejoin timer from 0, and an event that leaves the node lets it run on.
theorem test_rejoin_restarts :
    let s := withView (withRecords (tilt .clamped) 0 0 40) 0 .live
    let s : State := { s with nsc := { s.nsc with rejoin := some 500000 } }
    (after (.speedStatusChangeNsc 300 .valid) s).nsc.rejoin = some 0 ∧
    (after (.speedStatusChangeNsc 299 .valid) s).nsc.rejoin = some 500000 := by decide +kernel
/-- A node ready to join. -/
def joining : State :=
  let s := withView (withSpeed (withRecords (tilt .listen) 0 0 40) 0 .valid) 0 .live
  { s with nsc := { s.nsc with joinCount := 24 } }
theorem test_join : (after .periodNotice joining).nsc.node = .active ∧ (after .periodNotice joining).nsc.joinCount = 0 := by
  decide +kernel
theorem test_wake : (after (.frameNotice 9 .override) (tilt .dormant)).nsc.node = .active ∧
    (after .wakeCauseReport (tilt .dormant)).nsc.node = .active ∧
    (after (.topChangeNoticeNsc none) (tilt .dormant)).nsc.node = .active := by decide +kernel
/-- A node parked and ready for DORMANT. -/
def resting : State :=
  let s := withBrake (withSpeed (withRecords (tilt .active) (-6) 0 40) 0 .valid) .engaged .engaged
  { s with nsc := { s.nsc with topCopy := some .park, dormantDwell := some 10000000 } }
theorem test_dormant : (after .dormantDwellExpiry resting).nsc.node = .dormant ∧
    (after .dormantDwellExpiry resting).nsc.entryLean = some (-6) := by decide +kernel

-- 9.2, the worked frames.
theorem test_crc : crcByte 0xFFFF 0x29 = 0x54BB ∧ crcByte 0x54BB 0xF1 = 0x5E4F := by decide +kernel
theorem test_release_chars : frameChars (openByte .release 9) [0xF1] =
    [.mark 0x29, .data 0xF1, .data 0x5E, .data 0x4F, .mark 0xFF] := by decide +kernel
theorem test_run_chars : ((frameChars (openByte .speed 11) [3, 0x20, 0, 0, 0, 0, 0, 0, 0, 0, 0, 0, 0x41, 7]).take 7) =
    [.mark 0x5B, .data 3, .data 0x20, .mark 0xC8, .data 0, .data 0x41, .data 7] := by decide +kernel
/-- A receiver waiting for an OPEN, the peer view busy. -/
def waiting : State := taking { tilt .active with bi := { (tilt .active).bi with rx := .waitOpen } } 9 .release [0xF1]
theorem test_release_received : ((takeChars [.mark 0x29, .data 0xF1, .data 0x5E, .data 0x4F, .mark 0xFF] waiting).map
    (fun t => t.bi.rfq)) = some [⟨9, .release, none, [0xF1], 1000000⟩] := by decide +kernel
theorem test_receiver_leaves :
    (after (.unnamedMark 0xD0) waiting).bi.rx = .hunt ∧ (after .framingError waiting).bi.rx = .hunt ∧
    (after .lineBreak waiting).bi.rx = .hunt ∧ (after .frameTimeout (after (.openMark 0x29) waiting)).bi.rx = .hunt ∧
    (after (.runMark 3) waiting).bi.rx = .hunt := by decide +kernel
-- 9.4, the worked overflow, its last seven rows (a frame by its source and kind).
def offered (l : List (Addr × FrameKind)) : List RxFrame := l.map (fun q => ⟨q.1, q.2, none, [], 0⟩)
def queued (q : List RxFrame) (src : Addr) (k : FrameKind) : List (Addr × FrameKind) × Bool :=
  let r := offerFrame q ⟨src, k, none, [], 0⟩
  (r.1.map (fun f => (f.src, f.kind)), r.2)
theorem test_queue_replaces : queued (offered [(1, .contrib), (2, .rider), (11, .speed), (9, .override), (9, .release),
    (9, .override), (13, .clear), (2, .contrib)]) 11 .speed = ([(1, .contrib), (2, .rider), (11, .speed), (9, .override),
    (9, .release), (9, .override), (13, .clear), (2, .contrib)], false) := by decide +kernel
theorem test_queue_evicts : queued (offered [(1, .contrib), (2, .rider), (11, .speed), (9, .override), (9, .release),
    (9, .override), (13, .clear), (2, .contrib)]) 13 .halt = ([(1, .contrib), (2, .rider), (11, .speed), (9, .override),
    (9, .release), (9, .override), (13, .clear), (13, .halt)], true) := by decide +kernel
theorem test_queue_drops : queued (offered [(1, .contrib), (2, .rider), (11, .speed), (9, .override), (9, .release),
    (9, .override), (13, .clear), (13, .halt)]) 2 .contrib = ([(1, .contrib), (2, .rider), (11, .speed), (9, .override),
    (9, .release), (9, .override), (13, .clear), (13, .halt)], true) := by decide +kernel

/-- A transmitter with a RIDER and a CONTRIB waiting. -/
def full : State :=
  { waiting with bi := { waiting.bi with tx := .waitGap, slots := ⟨none, some ⟨[0, 120, 0, 0, 0, 2], 0⟩, some ⟨[0x12], 1⟩, none⟩ } }
theorem test_idle_starts : (after .idle full).bi.inFlight.map (fun f => f.kind) = some .rider ∧
    (after .idle full).bi.slots.contrib = some ⟨[0x12], 1⟩ := by decide +kernel
/-- A frame in flight that has been aborted a number of times. -/
def sending (k : FrameKind) (n : Nat) : State :=
  { waiting with bi := { waiting.bi with tx := .sending, inFlight := some ⟨k, [1], n, frameChars (openByte k 1) [1], 0⟩ } }
-- R156: the OPEN of a RELEASE from 9 bit by bit, and the same bits with the stop bit read 0.
theorem test_character_bits : LineChar.word (.mark 0x29) = 0b01001010011 ∧ lineEvent 0b01001010011 = some (.openMark 0x29) ∧
    lineEvent 0b01001010010 = some .framingError ∧ LineChar.word (.data 0xF1) = 0b00111100011 := by decide +kernel
-- R155: SBD in the first two bit times of a frame (start 0, tag 1), in a break, and with nothing to send.
theorem test_sbd : ([true].foldl Bi.bitTime (sending .contrib 0).bi).sbd = false ∧
    ([true, true].foldl Bi.bitTime (sending .contrib 0).bi).sbd = true ∧
    (after .readbackMismatch (sending .contrib 0)).outputs.sbd = false ∧ (tilt .active).outputs.sbd = true := by decide +kernel
-- The pins of scope, section 4, in ACTIVE and in DORMANT with the same stored drive output, and in a sweep and an image read.
theorem test_pins :
    (let s (n : NodeState) : State := { tilt n with drive := ⟨true, some 540⟩ }
     (s .active).outputs.pwmo = some 540 ∧ (s .active).outputs.dren = true ∧ (s .dormant).outputs.pwmo = none ∧
       (s .dormant).outputs.dren = false) ∧
    (sweeping (tilt .active) .running2).outputs.ssel = some 1 ∧ (tilt .active).outputs.isel = false ∧
    (after (.fullReset 1 false true false) (tilt .active)).outputs.isel = true ∧ (tilt .free).outputs.bkc = (tilt .free).bcu.driver := by
  decide +kernel
-- R155: SBS in those two bit times, in a break, and while another station drives the released line and after it.
theorem test_sbs : ([true].foldl Bi.bitTime (sending .contrib 0).bi).sbs = false ∧
    ([true, true].foldl Bi.bitTime (sending .contrib 0).bi).sbs = true ∧
    ((after .readbackMismatch (sending .contrib 0)).bi.bitTime true).sbs = false ∧
    ([false].foldl Bi.bitTime (tilt .active).bi).sbs = false ∧ ([false, true].foldl Bi.bitTime (tilt .active).bi).sbs = true := by
  decide +kernel
theorem test_frame_sent : (after .frameSent (sending .rider 0)).bi.tx = .idle := by decide +kernel
theorem test_arbitration : (after .arbitrationLoss (sending .contrib 1)).bi.slots.contrib = some ⟨[1], 1⟩ ∧
    (after .arbitrationLoss (sending .contrib 1)).bi.tx = .waitGap := by decide +kernel
theorem test_mismatch : (after .readbackMismatch (sending .contrib 1)).bi.slots.contrib = some ⟨[1], 2⟩ ∧
    (after .readbackMismatch (sending .contrib 2)).bi.slots.contrib = none ∧
    (after .readbackMismatch (sending .contrib 2)).handed = [.conditionReport .linkConflict true] ∧
    (let s := after .readbackMismatch (sending .contrib 1)
     (after .abortBreakEnd { s with bi := { s.bi with abortTime := some 33 } }).bi.tx = .waitGap ∧
     (after .abortBreakEnd { s with bi := { s.bi with abortTime := some 32 } }).bi.tx = .aborting) := by decide +kernel

-- 10.7, the worked service exchange: the 26-byte REPORT of item 3.
theorem test_query_stack : (after (.queryStack 0 0) (standing [⟨240, .hold, some (-6), .forever 50, none, false⟩])).bi.slots.report =
    some ⟨[3, 0, 0, 0, 0, 1, 240, 1, 0xFF, 0xFA, 0, 0, 0, 50, 15, 0, 0, 0, 0, 0, 0, 0, 0, 0, 0, 0], 0⟩ := by decide +kernel
theorem test_query_bad : (after (.queryUnknownItem 9 4 0) (tilt .active)).bi.slots.report = some ⟨[9, 4, 3], 0⟩ ∧
    (after (.queryBrake 0 0) (steer .active)).bi.slots.report = some ⟨[6, 0, 3], 0⟩ ∧
    (after (.queryImage 12 0) (tilt .active)).bi.slots.report = some ⟨[5, 12, 3], 0⟩ ∧
    (after (.queryPeerRow 15 1) (tilt .active)).bi.slots.report = some ⟨[0x12, 15, 3], 0⟩ := by decide +kernel
theorem test_query_image : ((after (.queryImage 11 0) { tilt .active with cl := ⟨.good, 1, some image⟩ }).bi.slots.report.map
    (fun x => x.payload.take 17)) = some [5, 11, 0, 0x8E, 0, 25, 4, 0, 0, 0x81, 27, 1, 44, 0, 50, 0, 200] := by decide +kernel
theorem test_clear_latches :
    let s : State := { tilt .free with nsc := { (tilt .free).nsc with latches := 0x00A4, present := 0x0084 } }
    (after .clearLatches { s with pins := { s.pins with bfltLow := true } }).nsc.latches = 0x0080 ∧
    (after .clearLatches { s with pins := { s.pins with bfltLow := true } }).nsc.present = 0x0080 := by decide +kernel
theorem test_clear_restart : (after .clearRestart (withSpeed (tilt .active) 0 .valid)).sr.restartPending = true ∧
    (after .clearRestart (withSpeed (tilt .active) 30 .valid)).sr.restartPending = false ∧
    (after .clearRestart (withSpeed (tilt .free) 0 .lost)).sr.restartPending = true ∧
    ((after .clearRestart (withSpeed (tilt .active) 30 .valid)).bi.slots.report.map (fun x => x.payload.take 3)) = some [1, 2, 1] := by
  decide +kernel
theorem test_clear_unknown : ((after (.clearUnknownAction 7) (tilt .active)).bi.slots.report.map (fun x => x.payload.take 3)) =
    some [1, 7, 3] := by decide +kernel
theorem test_restart_after_report :
    let s := sending .report 0
    let t := after .frameSent { s with sr := ⟨true⟩, nsc := { s.nsc with latches := 0x0804, lastHalt := some ⟨9, 2, 0⟩ } }
    t.nsc.node = .start ∧ t.nsc.latches = 0x0804 ∧ t.nsc.present = 0x0804 ∧ t.nsc.lastHalt = some ⟨9, 2, 0⟩ := by decide +kernel
-- R79: a reset that finds the switch open.
theorem test_full_reset : (after (.fullReset 4 false true false) (tilt .active)).bcu.state = .engaging ∧
    (after (.fullReset 4 false true false) (tilt .active)).cl.ownAddr = 4 ∧
    (after (.fullReset 4 false true false) (tilt .active)).nsc.latches = 0 := by decide +kernel
-- A tick of an idle node: the sweep timer that reaches 2 ms puts its expiry in the queue.
theorem test_tick : (match step { tilt .active with mu := { (tilt .active).mu with sweepTimer := some 1999 } } with
    | .next t => t.pending | _ => []) = [.sweepTimerExpiry] := by decide +kernel
theorem test_table_words : decodeTableWord 8 5 = none ∧ State.reset.withFetchWord 8 5 = State.reset := by decide +kernel

/-! ## For each statement with hypotheses, states and operands that meet them -/

-- For StepTakesFrontCommand.
theorem witness_step :
    ({ tilt .active with handed := [.wakeCauseReport, .periodNotice] } : State).pending = [] ∧
    (let s : State := { tilt .active with le := { (tilt .active).le with periodTimer := some 1999 } }
     s.pending = [] ∧ s.handed = [] ∧ s.le.periodTimer = some 1999 ∧ 1999 < s.prm.p * 1000 ∧
       s.timers[0]? = some (some 1999, 2000, .periodExpiry) ∧ s.timers[12]? = some (none, 33, .abortBreakEnd) ∧
       s.bi.inFlight = none ∧ s.bi.rx ≠ .off) ∧
    (sending .contrib 0).bi.tx = .sending ∧ (sending .contrib 0).bi.rx ≠ .off ∧ State.reset.bi.rx = .off ∧
    (after .readbackMismatch (sending .contrib 0)).bi.sbd = false := by decide +kernel
-- For FullResetSetsEveryBlock.
theorem witness_full_reset : switchOf true false = .engaged ∧ switchOf false true ≠ .engaged ∧ switchOf false false ≠ .engaged ∧
    switchOf true true ≠ .engaged := by decide
-- For RestartKeepsLatchesAndLastHalt.
theorem witness_restart : ({ tilt .active with sr := ⟨true⟩ } : State).sr.restartPending = true ∧
    ({ tilt .active with sr := ⟨true⟩ } : State).bi.slots.report = none := by decide
/-- START with the straps at a value. -/
def starting (a : Addr) : State := { State.reset with cl := ⟨.reading, a, none⟩ }
-- For ImageReadStartsOrHaltsTheNode.
theorem witness_image_good : (starting 1).nsc.node = .start ∧ (starting 1).cl.phase = .reading ∧
    imageGood image (starting 1).cl.ownAddr = true ∧ (paramsOf image).ownRole ≠ .steer :=
  ⟨rfl, rfl, test_image_good, by rw [test_image_params]; decide⟩
-- For ImageReadStartsOrHaltsTheNode.
theorem witness_image_steer : (starting 2).nsc.node = .start ∧ (starting 2).cl.phase = .reading ∧
    imageGood steerImage (starting 2).cl.ownAddr = true ∧ (paramsOf steerImage).ownRole = .steer :=
  ⟨rfl, rfl, test_steer_image_good, by rw [test_steer_image_params]⟩
-- For ImageReadStartsOrHaltsTheNode.
theorem witness_image_bad : (starting 2).nsc.node = .start ∧ (starting 2).cl.phase = .reading ∧
    imageGood image (starting 2).cl.ownAddr = false ∧ (starting 2).nsc.present.has .configBad = false :=
  ⟨rfl, rfl, test_image_wrong_straps, by decide⟩
-- For InterpolationFollowsTheTable.
theorem witness_interpolation : 2 ≤ prm.curve.length ∧ prm.curve.Pairwise (fun p q => p.1 < q.1) ∧
    prm.curve.head? = some (0, 0) ∧ prm.curve.getLast? = some (450, 833) ∧ prm.curve[2]? = some (100, 147) ∧
    prm.curve[3]? = some (150, 223) ∧ ((100 : Nat) : Int) ≤ 100 ∧ (100 : Int) < (150 : Nat) ∧ (149 : Int) < (150 : Nat) := by
  decide +kernel
-- For LowSpeedFade.
theorem witness_fade : (turning 40 0).prm.vFl < (turning 40 0).prm.vFh ∧
    (withSpeed (turning 40 0) 150 .valid).pvu.speed ≤ prm.vFl ∧ prm.vFh ≤ (withSpeed (turning 40 0) 400 .valid).pvu.speed ∧
    prm.vFl < (withSpeed (turning 40 0) 151 .valid).pvu.speed ∧ (withSpeed (turning 40 0) 151 .valid).pvu.speed < prm.vFh ∧
    (turning 40 0).prm = (turning (-40) 0).prm ∧ (turning 40 0).pvu.speed = (turning (-40) 0).pvu.speed ∧
    (turning (-40) 0).s4 = -(turning 40 0).s4 := by decide +kernel
-- For LowSpeedFade.
theorem witness_fade_image : imageGood image 1 = true := test_image_good
-- For OverrideResolution.
theorem witness_resolution :
    (∀ e ∈ [entry 7 .limit (some 500) 50 false], e.kind = .limit ∧ ∃ a, e.angle = some a ∧ 0 ≤ a) ∧
    (∀ e, ([] : List Entry).head? = some e → e.kind ≠ .limit) ∧
    (∀ e, [entry 9 .hold (some (-800)) 9 false].head? = some e → e.kind ≠ .limit) ∧
    (∀ e, [entry 8 .upright none 9 false].head? = some e → e.kind ≠ .limit) := by
  simp [entry]
-- For PeriodExpiryPublishesTheTarget, PeriodExpiryRunsItsChecks, HandlebarViewHoldsAndRamps, RowSweepRemovesOldRecordsOnly (their first hypothesis).
theorem witness_live : (tilt .listen).nsc.node.live = true ∧ (tilt .dormant).nsc.node.live = true ∧
    (tilt .clamped).nsc.node.tracking = true ∧ (tilt .dormant).nsc.node.tracking = false := by decide
-- For PeriodExpiryPublishesTheTarget.
theorem witness_expiry_reseeds :
    (let s : State := { tilt .active with le := { (tilt .active).le with lastRun := some .listen } }
     s.nsc.node.live = true ∧ s.nsc.node = .active ∧ s.le.lastRun = some .listen ∧ s.le.prev.natAbs ≤ s.prm.phiMax) ∧
    (turning 40 4000).le.prev.natAbs ≤ (turning 40 4000).prm.phiMax := by decide +kernel
-- For PeriodExpiryPublishesTheTarget: the handlebar to the left, to the right beyond its range, and straight; the STEER role's lean.
theorem witness_stages :
    (turning 480 0).s1 = 450 ∧ (turning (-40) 0).s1 < 0 ∧ (turning 0 0).s1 = 0 ∧
    (heard (steer .active) 1 (contrib 1 2 0 (-11) 0 100) 1000).contribOf .tiltA = some (contrib 1 2 0 (-11) 0 100, .fresh) ∧
    (heard (steer .active) 1 (contrib 1 2 0 (-11) 0 100) 1000).contribOf .tiltB = none ∧
    (heard (heard (steer .active) 1 (contrib 1 2 0 (-11) 0 100) 1000) 4 (contrib 2 2 0 8 0 100) 1000).measured = some (-2) ∧
    (steer .active).contribOf .tiltA = none ∧ (tilt .active).role ≠ .steer := by decide +kernel
-- For PeriodExpiryRunsItsChecks.
theorem witness_expiry_overlean :
    (let s (x : Int) (n : Nat) (r : Bool) : State := { withRecords (tilt .active) x 0 40 with
       le := { (tilt .active).le with overCount := n, overReported := r, periodTimer := some 0 } }
     (s 4501 2 false).role.isTilt = true ∧ (s 4501 2 false).mu.records.shaft.state = .good ∧
       (s 4501 2 false).mu.records.shaft.lastGood = some 4501 ∧
       (s 4501 2 false).le.countedStamp ≠ some (s 4501 2 false).mu.records.shaft.stamp ∧ prm.phiStop < (4501 : Int).natAbs ∧
       (s 4501 2 false).le.overReported = false ∧
       (s (-4500) 3 true).mu.records.shaft.lastGood = some (-4500) ∧ (-4500 : Int).natAbs ≤ prm.phiStop ∧
       (s (-4500) 3 true).le.overReported = true) ∧
    (steer .active).role.isTilt = false ∧ (tilt .active).mu.records.shaft.state ≠ .good := by decide +kernel
-- For PeriodExpiryRunsItsChecks.
theorem witness_expiry_mismatch :
    (let s := heard { tilt .active with le := { (tilt .active).le with mismatch := 49 } } 4
       { contrib 2 2 0 0 0 100 with depth := 1, topTag := 7 } 1000
     s.nsc.node.running = true ∧ 4 ∈ s.peers ∧
       s.contribAt 4 = some ({ contrib 2 2 0 0 0 100 with depth := 1, topTag := 7 }, .fresh) ∧
       ({ contrib 2 2 0 0 0 100 with depth := 1, topTag := 7 } : Contrib).running = true ∧ s.le.mismatch = 49 ∧
       (after .periodExpiry s).le.stack = []) ∧
    (∀ a ∈ (tilt .degraded).peers, (tilt .degraded).contribAt a = none) ∧ (tilt .degraded).nsc.node.running = true ∧
    (tilt .listen).nsc.node.running = false := by decide +kernel
-- For OverridePushIsMade.
theorem witness_push :
    (standing parked).nsc.node.live = true ∧ (12 : Byte) ≠ 0 ∧ (239 : Byte).toNat < 240 ∧ overrideOfByte 3 = some .park ∧
    (∀ x ∈ (standing parked).le.stack, x.tag ≠ 12 ∧ x.tag ≠ 239) ∧ (standing parked).le.speed.status.heard = true ∧
    (withSpeed (standing parked) 29 .single).le.speed.value < prm.vStand ∧ (standing parked).le.stack.length < 4 ∧
    overrideOfByte 1 = some .hold ∧ overrideOfByte 2 = some .upright ∧ overrideOfByte 4 = some .limit ∧
    (tilt .dormant).nsc.node.live = true := by decide +kernel
-- For OverridePushIsMade, ReleaseRequestPopsOrMarks: a change of the stack that starts the dwell, stops it and lets it run on.
theorem witness_dwell :
    (let s := standing [entry 9 .park (some (-6)) 30000 false]
     (after (.releaseRequest 9 9) s).le.stack ≠ s.le.stack ∧ (after (.releaseRequest 9 9) s).le.dwell = some 0) ∧
    (let s : State := { standing [] with le := { (standing []).le with dwell := some 77 } }
     (after (.overrideRequest 9 .console 9 3 0 500) s).le.dwell = none ∧
       (after (.overrideRequest 9 .console 8 2 0 500) s).le.dwell = some 77 ∧
       (after (.overrideRequest 9 .console 0 2 0 500) s).le.stack = s.le.stack) := by decide +kernel
-- For OverrideRefreshReplacesTheCount.
theorem witness_refresh :
    (standing parked).nsc.node.live = true ∧ (7 : Byte) ≠ 0 ∧ (7 : Byte).toNat < 240 ∧
    (standing parked).le.stack.find? (fun x => x.tag == 7) = some (entry 7 .limit (some 1500) 40 false) ∧
    overrideOfByte 4 = some (entry 7 .limit (some 1500) 40 false).kind ∧ (0xFFFF : Half) ≠ 0 ∧
    ((0 : Half) = 0 ∧ Role.console ≠ .service) := by decide +kernel
-- For OverrideRefusalsInOrder.
theorem witness_refusals :
    (standing parked).nsc.node.live = true ∧ overrideOfByte 5 = none ∧ 240 ≤ (240 : Byte).toNat ∧
    (standing parked).le.stack.find? (fun x => x.tag == 7) = some (entry 7 .limit (some 1500) 40 false) ∧
    overrideOfByte 1 ≠ some (entry 7 .limit (some 1500) 40 false).kind ∧
    (∀ x ∈ (standing parked).le.stack, x.tag ≠ 12) ∧ overrideOfByte 3 = some .park ∧
    ¬(withSpeed (standing parked) 30 .valid).le.speed.value < prm.vStand ∧
    (withSpeed (standing parked) 0 .held).le.speed.status.heard = false ∧
    4 ≤ (standing (entry 8 .upright none 9 false :: parked)).le.stack.length ∧ Role.console ≠ .service := by decide +kernel
-- For ReleaseRequestPopsOrMarks.
theorem witness_release : (standing parked).nsc.node.live = true ∧ (9 : Byte) ≠ 240 ∧
    (standing parked).le.stack = entry 9 .park (some (-6)) 30000 false :: parked.tail ∧
    (entry 9 .park (some (-6)) 30000 false).tag = 9 ∧ (entry 9 .park (some (-6)) 30000 false).tag ≠ 7 ∧
    (∀ e ∈ (standing parked).le.stack, e.tag ≠ 8) ∧ (tilt .dormant).nsc.node = .dormant := by decide +kernel
-- For TopEntryAdvancesAtAnExpiry.
theorem witness_advance : (standing parked).nsc.node.live = true ∧ (standing parked).nsc.node.tracking = false ∧
    (entry 7 .limit (some 1500) 40 false).count = .finite 40 ∧ 1 ≤ 40 ∧ 39 < 40 ∧
    (⟨240, .hold, some (-6), .forever 65535, none, false⟩ : Entry).count = .forever 65535 ∧ 65535 ≤ 65535 := by decide
-- For AutoLockPushesHold.
theorem witness_auto_lock :
    (let s (l : List Entry) : State := { standing l with le := { (standing l).le with dwell := some 500000 } }
     (s []).le.dwell = some 500000 ∧ (s []).prm.tStand * 1000 ≤ 500000 ∧ 499999 < (s []).prm.tStand * 1000 ∧ (s []).le.stack.length < 4 ∧ (∀ e ∈ (s []).le.stack, e.tag ≠ 240) ∧
       4 ≤ (s (entry 8 .upright none 9 false :: parked)).le.stack.length ∧
       (s (entry 8 .upright none 9 false :: parked)).le.dwell.isSome = true) := by decide
-- For MotionReleasesParkedEntries.
theorem witness_motion : (standing parked).nsc.node.live = true ∧ SpeedStatus.single.heard = true ∧ prm.vUnlock < 61 ∧
    ¬(SpeedStatus.single.heard = true ∧ prm.vUnlock < 60) ∧ (29 < prm.vStand) ∧
    (standing parked).le.stack.head? = some (entry 9 .park (some (-6)) 30000 false) ∧
    (standing parked.tail).le.stack.head? = some (entry 7 .limit (some 1500) 40 false) ∧
    ((7 : Byte) == 240 || (7 : Byte) == 241 || OverrideKind.limit == .park) = false := by decide
-- For JoinPushesStartPark.
theorem witness_join_parks :
    (tilt .active).brakeSeenEngaged = true ∧ (tilt .active).le.stack.length < 4 ∧ (∀ e ∈ (tilt .active).le.stack, e.tag ≠ 241) ∧
    (heard (steer .active) 1 (contrib 1 2 0 0 0 100) 1000).brakeSeenEngaged = true ∧ (steer .active).brakeSeenEngaged = false ∧
    4 ≤ (standing (entry 8 .upright none 9 false :: parked)).le.stack.length := by decide +kernel
-- For ShareIsNearestQuotient.
theorem witness_share : 0 + 0 = 0 ∧ 0 < 1 + 0 ∧ 0 < 50 + 50 ∧ 2 * ((4251 : Int) * 50 - 2126 * ((50 + 50 : Nat) : Int)).natAbs = 50 + 50 ∧
    shareRaw 4251 50 50 = 2126 := by decide +kernel
-- For TsuArrivalFormsShareAndOutput.
theorem witness_tsu :
    (let s := sharing 90 60 4250 1000
     s.role.isTilt = true ∧ s.nsc.node.live = true ∧ s.mu.records.shaft.lastGood = some 1990 ∧
       s.mu.records.rate.lastGood = some 9500 ∧ s.mu.records.temp.state ≠ .failed ∧ s.mu.records.temp.lastGood = some 90 ∧
       (90 : Int) ≤ s.prm.td1 ∧ s.tsu.ramp = .complete ∧ s.nsc.node.running = true ∧
       s.partnerContrib = some (contrib 2 2 2020 1990 4250 60, .fresh) ∧ Freshness.fresh.heard = true ∧
       (contrib 2 2 2020 1990 4250 60).running = true ∧ s.bcu.state ≠ .engaging ∧ s.bcu.state ≠ .engaged) := by decide +kernel
-- For TsuArrivalFormsShareAndOutput (its other clauses).
theorem witness_tsu_others :
    (tilt .listen).mu.records.shaft.lastGood = none ∧ (tilt .listen).mu.records.temp.lastGood = none ∧
    (sharing 120 60 4250 1000).mu.records.temp.lastGood = some 120 ∧ prm.td1 < 120 ∧ prm.td2 ≤ 120 ∧
    (sharing 91 60 4250 1000).mu.records.temp.lastGood = some 91 ∧ prm.td1 < 91 ∧ (91 : Int) < prm.td2 ∧
    (tilt .listen).tsu.ramp = .idle ∧ (after (.nodeStateChangeTsu .listen .active) (tilt .active)).tsu.ramp = .running 1000000 ∧
    (tilt .listen).nsc.node.running = false ∧ (tilt .listen).partnerContrib = none ∧ (tilt .listen).handed = [] ∧
    ([Instr.nodeStateChangeTsu .listen .active].filterMap tsuChange).foldl (fun x q => rampChange q.1 q.2 7 x) .idle = .running 7 ∧
    (withBrake (tilt .active) .engaging .released).bcu.state = .engaging := by decide +kernel
-- For TsuArrivalCountsDisagreeAndVote.
theorem witness_disagree :
    (let s (run agree : Nat) (d : Bool) (tau : Int) : State := { sharing 105 20 tau 1000 with
       tsu := { (sharing 105 20 tau 1000).tsu with disagreeRun := run, agreeRun := agree, disagree := d } }
     (s 9 0 false 3630).partnerContrib = some (contrib 2 2 2020 1990 3630 20, .fresh) ∧
       (s 9 0 false 3630).nsc.node.running = true ∧ (contrib 2 2 2020 1990 3630 20).running = true ∧
       (after (.newTargetArrivalTsu turn) (s 9 0 false 3630)).tsu.tauD = 4250 ∧
       prm.tauTol < ((4250 : Int) - (contrib 2 2 2020 1990 3749 20).tauD.toInt).natAbs ∧
       ((4250 : Int) - (contrib 2 2 2020 1990 3750 20).tauD.toInt).natAbs ≤ prm.tauTol ∧
       (s 9 0 false 3630).tsu.disagree = false ∧ prm.nX ≤ (s 9 0 false 3630).tsu.disagreeRun + 1 ∧
       (s 8 0 false 3630).tsu.disagreeRun + 1 < prm.nX ∧ (s 10 9 true 3750).tsu.disagree = true ∧
       prm.nX ≤ (s 10 9 true 3750).tsu.agreeRun + 1 ∧ (s 10 8 true 3750).tsu.agreeRun + 1 < prm.nX) ∧
    (tilt .listen).nsc.node.running = false := by decide +kernel
-- For TsuArrivalCountsDisagreeAndVote.
theorem witness_no_comparison : ∀ c, (sharing 80 60 4250 7000).partnerContrib = some (c, .fresh) → c.running = false := by
  intro c h
  have e : (sharing 80 60 4250 7000).partnerContrib = some (contrib 2 2 2020 1990 4250 60, .aging) := by decide +kernel
  rw [e] at h
  simp at h
/-- TILT-B voting: TILT-A at 1 and STEER at 2 FRESH and ACTIVE. -/
def voting (phiA phiB : Int) : State :=
  heard (heard { tilt .active with cl := ⟨.good, 4, none⟩, prm := { prm with ownRole := .tiltB } } 1 (contrib 1 2 phiA 0 0 100) 1000) 2
    (contrib 3 2 phiB 0 0 100) 1000
-- For TsuArrivalCountsDisagreeAndVote.
theorem witness_vote : (voting 2020 2015).outlierTest 1650 = true ∧ (voting 2020 2015).outlierTest 1715 = false ∧
    (voting 2020 2321).outlierTest 1650 = false ∧ (tilt .active).outlierTest 0 = false ∧
    (voting 2020 2015).role.isTilt = true ∧ (voting 2020 2015).nsc.node.live = true := by decide +kernel
-- For ArrivalFillsContribWhenAdmitted.
theorem witness_fill :
    (let s (n : Nat) : State := { tilt .dormant with nsc := { (tilt .dormant).nsc with sendCount := n } }
     (s 49).nsc.node.live = true ∧ (s 49).bi.tx ≠ .off ∧ (s 49).cl.ownAddr ≠ 15 ∧ (s 49).role.isTilt = true ∧
       49 ≤ (s 49).nsc.sendCount ∧ (s 48).nsc.sendCount < 49) ∧
    (tilt .listen).nsc.node ≠ .dormant ∧ (steer .listen).role = .steer ∧ -32768 ≤ turn.phiT ∧ turn.phiT ≤ 32767 ∧ turn.depth ≤ 4 ∧
    ({ (tilt .active).mu with wheelSpeed := some 2500 } : Mu).wheelSpeed = some 2500 ∧ (tilt .active).mu.wheelSpeed = none := by
  decide +kernel
-- For ArrivalFillsContribWhenAdmitted: a present set with a condition that the arrival reports, and an empty one.
theorem witness_fill_present :
    ((after (.newTargetArrivalTsu turn) (sharing 80 60 4250 25000)).row 1).contrib.map (fun q => (q.1.present, q.1.primary)) =
      some (0x200, 10) ∧
    ((after (.newTargetArrivalTsu turn) (sharing 80 60 4250 1000)).row 1).contrib.map (fun q => (q.1.present, q.1.primary)) =
      some (0, 0) := by decide +kernel
-- For TsuFollowsTheNodeState: an arrival before a waiting change.
theorem witness_waiting_change :
    (let s : State := { tilt .free with handed := [.nodeStateChangeTsu .active .free, .periodNotice] }
     s.role.isTilt = true ∧ s.handed = .nodeStateChangeTsu .active s.nsc.node :: [.periodNotice] ∧ s.nsc.node = .free ∧
       ∀ i ∈ [Instr.periodNotice], tsuChange i = none) ∧
    (let s : State := { tilt .active with handed := [.nodeStateChangeTsu .listen .active] }
     s.handed = .nodeStateChangeTsu .listen s.nsc.node :: [] ∧ s.nsc.node = .active) := by decide
-- For TsuFollowsTheNodeState, SluFollowsStateAndSweep.
theorem witness_roles : (tilt .active).role.isTilt = true ∧ (steer .active).role = .steer ∧ NodeState.degraded.running = true ∧
    NodeState.free.running = false ∧ (tilt .active).hasBcu = true := by decide
-- For SluArrivalFormsSteerTorque.
theorem witness_slu :
    (let s := steering 500 400 (-250)
     s.role = .steer ∧ s.nsc.node.live = true ∧ s.mu.records.torque.lastGood = some (-250) ∧ s.nsc.node.running = true ∧
       (steer .listen).mu.records.torque.lastGood = none ∧ (steer .listen).nsc.node.running = false ∧
       (after (.newTargetArrivalSlu turn) s).slu.coupling = false ∧ (after (.newTargetArrivalSlu turn) s).slu.softStop = false ∧
       (after (.newTargetArrivalSlu turn) (steering 500 400 250)).slu.softStop = true) := by decide +kernel
-- For SluArrivalFormsSteerTorque: two usable tilt rows, one, and none; the coupling active and, one run short, not.
theorem witness_slu_coupling :
    (let row (k : BitVec 4) (phiM : Int) : Contrib := { contrib k 2 2020 phiM 0 100 with saturated := true }
     let s := heard (heard (steering 900 60 400) 1 (row 1 1890) 1000) 4 (row 2 1900) 1000
     let run (a b : Nat) : State := { s with slu := { s.slu with runA := a, runB := b } }
     s.contribOf .tiltA = some (row 1 1890, .fresh) ∧ s.contribOf .tiltB = some (row 2 1900, .fresh) ∧ (row 1 1890).running = true ∧
       (row 1 1890).saturated = true ∧ (row 2 1900).running = true ∧ s.prm.vCouple ≤ s.pvu.speed ∧
       (after (.newTargetArrivalSlu turn) (run 5 4)).slu.coupling = true ∧
       (after (.newTargetArrivalSlu turn) (run 5 3)).slu.coupling = false) ∧
    (let s := heard (steering 900 60 400) 1 (contrib 1 2 2020 1890 0 100) 1000
     s.contribOf .tiltA = some (contrib 1 2 2020 1890 0 100, .fresh) ∧ (contrib 1 2 2020 1890 0 100).saturated = false ∧
       s.contribOf .tiltB = none) ∧
    (steering 900 60 400).contribOf .tiltA = none ∧ (steering 900 60 400).contribOf .tiltB = none := by decide +kernel
-- For SluFollowsStateAndSweep.
theorem witness_slu_sweep :
    (let s := steering 500 (-32768) 0
     s.role = .steer ∧ s.nsc.node.live = true ∧ s.bi.tx ≠ .off ∧ s.cl.ownAddr ≠ 15 ∧ s.mu.records.angle.lastGood = some (-32768) ∧
       s.mu.records.angle.state ≠ .failed ∧ -32768 ≤ (-32768 : Int)) ∧ (steer .listen).mu.records.angle.lastGood = none ∧
    (steering 500 120 (-250)).mu.records.torque.lastGood = some (-250) ∧ (steering 500 120 (-250)).mu.records.torque.state ≠ .failed ∧
    (steer .listen).mu.records.torque.lastGood = none := by
  decide +kernel
-- For SwitchChangeMovesTheBrake.
theorem witness_switch :
    switchOf true false ≠ (withBrake (tilt .active) .released .released).bcu.switch ∧ switchOf true false = .engaged ∧
    switchOf false true = .released ∧ switchOf false false = .between ∧ switchOf true true = .invalid ∧
    switchOf false true = (withBrake (tilt .active) .released .released).bcu.switch ∧
    (withBrake (tilt .active) .heldOff .released).bcu.state = .heldOff ∧ (withBrake (tilt .active) .stuck .between).bcu.state = .stuck := by
  decide
-- For BrakeTimerExpiries.
theorem witness_brake_timer :
    (let s (b : BrakeState) (sw : Switch) : State := withBrake (tilt .active) b sw
     (s .engaging .released).hasBcu = true ∧ (s .engaging .released).bcu.timer = some (.brake, 300000) ∧
       (s .engaging .released).bcu.switch ≠ .engaged ∧ (s .releasing .engaged).bcu.timer = some (.brake, 300000) ∧
       (s .releasing .engaged).bcu.switch ≠ .released ∧ (s .preload .engaged).bcu.timer = some (.preload, 50000) ∧
       (after (.topChangeNoticeBcu none) (s .engaging .between)).bcu.timer = some (.brake, 0) ∧
       (after (.topChangeNoticeBcu none) (s .engaged .engaged)).bcu.timer = some (.preload, 0) ∧
       (s .engaging .released).partnerFlag ≠ .off ∧
       (heard (s .engaging .released) 4 { contrib 2 2 0 0 0 100 with driver := true } 1000).partnerFlag = .on ∧
       (heard (s .engaging .released) 4 (contrib 2 2 0 0 0 100) 1000).partnerFlag = .off) := by decide +kernel
-- For DemandIsEvaluatedAfresh.
theorem witness_demand :
    (let s := withSpeed (withRecords (withBrake (tilt .active) .released .released) (-6) 40 40) 0 .valid
     let park : Option TopView := some ⟨9, .park, some (-6)⟩
     s.bcu.demand = true ∧ (after (.topChangeNoticeBcu park) s).bcu.demand = false ∧ s.bcu.state.wanted = true ∧
       (withBrake s .preload .engaged).bcu.switch = .engaged ∧ (withBrake s .preload .engaged).bcu.state.wanted = true ∧
       (withBrake s .engaged .engaged).bcu.demand = false ∧
       (after (.topChangeNoticeBcu none) (withBrake s .engaged .engaged)).bcu.demand = true ∧
       (withBrake s .heldOff .released).bcu.demand = false ∧ (after (.speedStatusChangeBcu 0 .valid) s).bcu.demand = true) := by
  decide +kernel
-- For DemandIsEvaluatedAfresh.
theorem witness_demand_stuck :
    (let s := withSpeed (withBrake (tilt .active) .stuck .released) 0 .valid
     s.bcu.state = .stuck ∧ s.bcu.demand = false ∧ (after (.nodeStateChangeBcu .listen .active) s).bcu.demand = true ∧
       (after (.nodeStateChangeBcu .active .listen)
         { withBrake (tilt .listen) .stuck .released with bcu := { s.bcu with demand := true } }).bcu.demand = false) := by
  decide +kernel
-- For SweepNoticeCountsTheSwitch.
theorem witness_sweep_counts :
    (let s (b : BrakeState) (sw : Switch) (i a : Nat) : State :=
       { withBrake (tilt .listen) b sw with bcu := { (withBrake (tilt .listen) b sw).bcu with invalidRun := i, agreeRun := a } }
     (s .engaged .invalid 2 0).ownDemand = (s .engaged .invalid 2 0).bcu.demand ∧ 2 ≤ (s .engaged .invalid 2 0).bcu.invalidRun ∧
       (s .engaging .invalid 1 0).bcu.invalidRun < 2 ∧ (s .heldOff .released 0 0).ownDemand = (s .heldOff .released 0 0).bcu.demand ∧
       (s .heldOff .released 0 0).partnerFlag ≠ .off ∧ (heard (s .heldOff .released 0 0) 4 (contrib 2 2 0 0 0 100) 1000).partnerFlag = .off ∧
       (s .stuck .engaged 0 2).bcu.agrees = true ∧ (s .stuck .engaged 0 2).ownDemand = (s .stuck .engaged 0 2).bcu.demand ∧
       (s .stuck .engaged 0 1).bcu.agreeRun < 2 ∧ (s .stuck .released 0 0).bcu.agrees = false) := by decide +kernel
-- For SweepNoticeCountsTheSwitch: a demand that changes at the notice, OFF (the row of 420.3 ms of 4.9) and ON.
theorem witness_sweep_moves :
    (let s (b : BrakeState) (sw : Switch) (i a : Nat) : State :=
       let q := withSpeed (withRecords (withBrake (tilt .active) b sw) (-20) 150 40) 0 .valid
       { q with bcu := { q.bcu with topCopy := some (.park, some (-6)), invalidRun := i, agreeRun := a } }
     (s .released .released 0 0).ownDemand = false ∧ (s .released .released 0 0).bcu.demand = true ∧
       (s .released .released 0 0).bcu.demand = (s .released .released 0 0).bcu.state.wanted ∧
       (after (.sweepNoticeBcu notice) (s .released .released 0 0)).bcu.state = .engaging ∧
       (after (.sweepNoticeBcu notice) (s .preload .engaged 0 0)).bcu.state = .engaged ∧
       (after (.sweepNoticeBcu notice) (s .released .invalid 1 0)).bcu.invalidRun = 2 ∧
       (after (.sweepNoticeBcu notice) (s .released .invalid 2 0)).bcu.state = .stuck) ∧
    (let s (b : BrakeState) (sw : Switch) (i a : Nat) : State :=
       { withBrake (tilt .active) b sw with bcu := { (withBrake (tilt .active) b sw).bcu with invalidRun := i, agreeRun := a } }
     (s .engaged .engaged 0 0).ownDemand = true ∧ (s .engaged .engaged 0 0).bcu.demand = false ∧
       (s .engaged .engaged 0 0).bcu.demand = (s .engaged .engaged 0 0).bcu.state.wanted ∧
       (after (.sweepNoticeBcu notice) (s .heldOff .released 0 0)).bcu.state = .released ∧
       (s .stuck .released 0 2).bcu.demand = false ∧ (s .stuck .released 0 2).ownDemand = true ∧
       (after (.sweepNoticeBcu notice) (s .stuck .released 0 2)).bcu.state = .released ∧
       (after (.sweepNoticeBcu notice) (s .stuck .released 0 1)).bcu.agreeRun = 2 ∧
       (after (.sweepNoticeBcu notice) (s .stuck .engaged 0 1)).bcu.agreeRun = 0) := by decide +kernel
-- For SweepTimerAndWheelEdge.
theorem witness_sweep_timer :
    (let s (n : Nat) : State := { tilt .dormant with mu := { (tilt .dormant).mu with dormantCount := n } }
     (s 15).nsc.node.live = true ∧ 15 ≤ (s 15).mu.dormantCount ∧ (s 15).mu.sweep = .idle ∧
       ¬((s 14).nsc.node ≠ .dormant ∨ 15 ≤ (s 14).mu.dormantCount) ∧ (sweeping (tilt .active) .running3).mu.sweep ≠ .idle) := by decide
-- For SweepTimerAndWheelEdge.
theorem witness_wheel_edge :
    (tilt .active).nsc.node.live = true ∧ (tilt .active).prm.pulseWired = true ∧ (tilt .active).mu.edgeCount = 0 ∧
    (rolling 19 100).mu.edgeCount ≠ 0 ∧ ((rolling 19 100).clock - (rolling 19 100).mu.t1).toNat < 20 ∧
    20 ≤ ((rolling 20 100).clock - (rolling 20 100).mu.t1).toNat ∧ State.reset.nsc.node.live = false := by decide +kernel
-- For ReadyEndsATransaction.
theorem witness_ready : (sweeping (tilt .active) .running1).mu.readyTimer = some 40 ∧
    (after .sweepTimerExpiry (tilt .active)).mu.readyTimer = some 0 ∧ (sweeping (tilt .active) .running1).mu.sweep = .running1 ∧ (sweeping (steer .active) .running2).mu.sweep = .running2 ∧
    (sweeping (tilt .active) .running3).mu.sweep = .running3 ∧ (tilt .active).mu.sweep = .idle := by decide
-- For ConversionCompletesTheSweep.
theorem witness_conversion :
    (rolling 499999 5469).mu.sweep = .running3 ∧ (rolling 499999 5469).mu.buffer = [⟨.none, some 0⟩, ⟨.none, some 0⟩] ∧
    (rolling 499999 5469).prm.pulseWired = true ∧ 2 ≤ (rolling 499999 5469).mu.edgeCount ∧
    ((rolling 499999 5469).clock - (rolling 499999 5469).mu.t1).toNat < 500000 ∧
    500000 ≤ ((rolling 500000 5469).clock - (rolling 500000 5469).mu.t1).toNat ∧
    ({ prm with pulseWired := false } : Params).pulseWired = false ∧ (-40 : Int) ≤ 150 := by decide +kernel
-- For RecordFailsAndRecovers.
theorem witness_record_fails : 1 ≤ 3 ∧ 3 ≤ 10 ∧ (good (-318)).state = .good ∧ (good (-318)).missRun = 0 ∧
    [((5 : Stamp), (⟨.timeout, none⟩ : Reading))] ≠ [] ∧
    (∀ x ∈ [((5 : Stamp), (⟨.timeout, none⟩ : Reading)), (6, ⟨.check, some 4⟩), (7, ⟨.range, some 9⟩), (8, ⟨.timeout, none⟩)],
      x.2.cause ≠ .none) ∧
    Sample.reset.state = .held ∧ Sample.reset.missRun = 0 ∧ Sample.reset.lastGood = none := by decide
-- For RecordFailsAndRecovers.
theorem witness_record_recovers : ({ good 7 with state := .failed, goodRun := 0 } : Sample).state = .failed ∧
    ({ good 7 with state := .failed, goodRun := 0 } : Sample).goodRun = 0 ∧ List.replicate 16 ((9 : Stamp), (7 : Int)) ≠ [] := by
  decide
-- For PeriodicFrameIsApplied.
theorem witness_periodic_frame :
    (let s := taking (tilt .active) 2 .rider [0, 120, 0, 0, 0, 2]
     s.nsc.node.live = true ∧ s.pvu.processing = some (⟨2, .rider, none, [0, 120, 0, 0, 0, 2], 1000000⟩, 3) ∧ (2 : Addr) ≠ 15 ∧
       FrameKind.rider.periodic = true ∧ lengthFits .rider 6 = true ∧ s.role.isTilt = true ∧ s.roleOf 2 = .steer ∧
       s.roleFits ⟨2, .rider, none, [0, 120, 0, 0, 0, 2], 1000000⟩ = true) ∧
    lengthFits .contrib 18 = true ∧ lengthFits .speed 1 = true ∧ lengthFits .speed 16 = true ∧
    (tilt .active).roleFits ⟨4, .contrib, none, (contrib 2 2 0 0 0 0).toBytes, 0⟩ = true ∧
    extractSpeed prm [0xA0, 0x2F, 0x80, 0x15] = some 800 ∧ extractSpeed prm [0xA0] = none := by decide +kernel
-- For PeriodicFrameIsApplied.
theorem witness_periodic_consensus :
    (let s := taking (tilt .active) 11 .speed [0xA0, 0x2F, 0x80, 0x15]
     consensusOf (usedValues (after .frameDone s).candidates) = some (800, .single) ∧
       (after .frameDone s).pvu.speed ≠ s.pvu.speed) ∧
    (let s := taking (withSpeed (tilt .active) 238 .valid) 2 .rider [0, 120, 0, 0, 0, 2]
     consensusOf (usedValues (after .frameDone s).candidates) = none ∧ (after .frameDone s).pvu.speedStatus = .held ∧
       (after .frameDone s).pvu.viewStatus ≠ s.pvu.viewStatus) := by decide +kernel
-- For CommandFrameIsHandedAndBadFrameDiscarded.
theorem witness_command_frame :
    (taking (tilt .active) 9 .release [0xF1]).pvu.processing = some (⟨9, .release, none, [0xF1], 1000000⟩, 3) ∧
    lengthFits .halt 3 = false ∧ lengthFits .contrib 18 = true ∧
    (Contrib.ofBytes (contrib 1 2 0 0 0 0).toBytes).role.toNat ≠ roleCode ((tilt .active).roleOf 4) ∧
    lengthFits .query 3 = true ∧ lengthFits .clear 1 = true ∧ lengthFits .override 6 = true ∧ lengthFits .halt 2 = true := by
  decide +kernel
-- For SpeedExtraction.
theorem witness_extraction : 1 ≤ prm.spdWidth ∧ 8 * [(0xA0 : Byte), 0x2F, 0x80].length < prm.spdOffset + prm.spdWidth ∧
    prm.spdOffset + prm.spdWidth ≤ 8 * [(0xA0 : Byte), 0x2F, 0x80, 0x15].length ∧
    (prm.valOffset < 32 ∧ (0xA02F8015 : Nat).testBit (32 - 1 - prm.valOffset) = prm.valSense) ∧
    (0xA02F8005 : Nat).testBit (32 - 1 - prm.valOffset) ≠ prm.valSense := by decide +kernel
-- For ConsensusOfUsedValues.
theorem witness_consensus_order : (790 ≤ 800 ∧ 800 ≤ 805 ∧ 805 ≤ 812) ∧ [812, 790].Perm [790, 812] := by decide
-- For ConsensusIsReevaluated.
theorem witness_reevaluation :
    (let s := withSpeed (tilt .active) 238 .valid
     let w : State := { s with mu := { s.mu with wheelSpeed := some 812 } }
     s.nsc.node.live = true ∧ consensusOf (usedValues s.candidates) = none ∧
       consensusOf (usedValues { w with mu := { w.mu with records := ⟨good 0, good 0, good 0, good 0, good 0⟩ } }.candidates) =
         some (812, .single)) ∧
    (let s := withSpeed (tilt .active) 238 .held
     let h : State := { s with pvu := { s.pvu with speedHold := some 200000 } }
     h.pvu.speedHold = some 200000 ∧ h.prm.hV * 1000 ≤ 200000 ∧ 199999 < h.prm.hV * 1000 ∧ h.pvu.speedStatus = .held) ∧
    (tilt .active).pvu.speedStatus = .lost := by decide +kernel
-- For ConsensusIsReevaluated.
theorem witness_steer_view :
    (steering 0 120 0).role = .steer ∧ (steering 0 120 0).mu.records.angle.lastGood = some 120 ∧
    (steering 0 120 0).mu.records.angle.state = .good ∧
    (steer .active).mu.records.angle.state = .held ∧ (steer .active).mu.records.angle.lastGood = none ∧
    (withView (steer .active) 120 .live).pvu.viewStatus = .live ∧ (steer .active).pvu.viewStatus = .ramping ∧
    (after (.sweepNoticePvu notice) (withView (steer .active) 120 .held)).pvu.viewHold = some 0 := by decide +kernel
-- For ConsensusIsReevaluated: the candidates, two FRESH and one AGING, and one FRESH and one AGING.
theorem witness_candidates :
    (let far (a : Nat) (k : BitVec 4) (v : Half) (us : Nat) (s : State) : State := heard s a { contrib k 2 0 0 0 0 with pulse := v } us
     let s := far 4 2 812 7000 (tilt .active)
     let w : State := { s with mu := { s.mu with wheelSpeed := some 805 } }
     s.addrOf .drive = some 11 ∧ s.peers[0]? = some 2 ∧ s.peers[1]? = some 4 ∧
       s.candidates.map (fun c => (c.value, c.fresh)) = [(none, .empty), (none, .empty), (none, .empty), (some 812, .aging)] ∧
       usedValues s.candidates = [812] ∧ usedValues w.candidates = [805, 812] ∧
       usedValues (far 2 3 2600 6000 w).candidates = [805, 2500] ∧
       (far 2 3 0xFFFF 1000 w).peerCandidates.1.value = none) ∧
    (steer .active).peers = [1, 4] ∧ (tilt .active).addrOf .absent = some 0 ∧
    ({ tilt .active with pvu := Pvu.reset } : State).addrOf .drive = none := by decide +kernel
-- For RowSweepRemovesOldRecordsOnly: the limits of the four classes, outside DORMANT and at a station that reports it.
theorem witness_freshness :
    (let f (n : BitVec 4) (us : Nat) : Freshness :=
       let s : State := { tilt .active with clock := 40000000 }
       let q := heard s 4 (contrib 2 n 0 0 0 0) us
       q.freshOf 4 (q.row 4).contrib
     f 2 6000 = .fresh ∧ f 2 6001 = .aging ∧ f 2 20000 = .aging ∧ f 2 20001 = .stale ∧ f 2 30000000 = .stale ∧
       f 2 30000001 = .empty ∧ f 6 250000 = .aging ∧ f 6 250001 = .stale) ∧
    (let q := heard { tilt .active with clock := 40000000 } 4 (contrib 2 6 0 0 0 0) 30000001
     q.sRow 4 = 20000) ∧
    (tilt .active).partner = some 4 ∧ (steer .active).partner = none := by decide +kernel
-- For HandlebarViewHoldsAndRamps.
theorem witness_ramp :
    (withView (tilt .active) (-5) .ramping).pvu.viewStatus = .ramping ∧ (withView (tilt .active) 120 .live).riderFresh.heard = false ∧
    (withView (tilt .active) 120 .held).role.isTilt = true ∧ (withView (steer .active) 120 .live).role.isTilt = false ∧
    (let s := withView (tilt .active) 120 .held
     let h : State := { s with pvu := { s.pvu with viewHold := some 100000 } }
     h.nsc.node.live = true ∧ h.pvu.viewHold = some 100000 ∧ h.prm.hDelta * 1000 ≤ 100000 ∧ 99999 < h.prm.hDelta * 1000 ∧
       h.pvu.viewStatus = .held) ∧
    (let s := after .frameDone (taking (tilt .active) 2 .rider [0, 120, 0, 0, 0, 2])
     s.riderFresh.heard = true ∧ s.pvu.viewStatus ≠ .ramping) ∧
    (tilt .active).addrOf .steer = some 2 ∧ State.reset.addrOf .steer = none := by decide +kernel
-- For ConditionReportActsByClass.
theorem witness_condition_report :
    (tilt .active).nsc.present.has .overlean = false ∧ (tilt .listen).nsc.present.has .haltTaken = false ∧
    isSerious .overlean = true ∧ isDegrading .disagree = true ∧ (tilt .dormant).nsc.node = .dormant ∧
    State.reset.nsc.present.has .configBad = false ∧ State.reset.nsc.node = .start ∧ (tilt .active).bi.tx ≠ .off ∧
    (withSpeed (tilt .active) 300 .lost).prm.vFree ≤ (withSpeed (tilt .active) 300 .lost).nsc.speed.value ∧
    ({ (tilt .active).nsc with present := 2 } : Nsc).present.has .overlean = true := by decide
-- For ConditionReportActsByClass, PeriodNoticeJoinsAndClears, DormancyAndRejoining, SourcesSetTheirConditions: the dormant dwell
-- runs on, starts from 0, stops at an evaluation and stops at a passage.
theorem witness_dormant_runs :
    (let s : State := { resting with nsc := { resting.nsc with dormantDwell := some 77 } }
     let w : State := { resting with nsc := { resting.nsc with dormantDwell := none, present := 0x0800 } }
     (after .periodNotice s).nsc.dormantDwell = some 77 ∧
       (after (.conditionReport .linkConflict false) w).nsc.dormantDwell = none ∧
       (after (.conditionReport .overrideMismatch false) { w with nsc := { w.nsc with present := 0x2000 } }).nsc.dormantDwell = some 0 ∧
       (after (.conditionReport .brakeStuck true) s).nsc.dormantDwell = none ∧
       (after (.conditionReport .disagree true) s).nsc.dormantDwell = none ∧
       (after (.speedStatusChangeNsc 1 .valid) { s with pvu := { s.pvu with viewStatus := .live } }).nsc.dormantDwell = none ∧
       (after (.topChangeNoticeNsc none) s).nsc.dormantDwell = none ∧
       (after (.viewChange .live) s).nsc.dormantDwell = some 77) := by decide +kernel
-- For HaltTakesTheNodeOut.
theorem witness_halt : (tilt .free).nsc.node.live = true ∧ (tilt .listen).nsc.node ≠ .free ∧ (tilt .listen).nsc.node ≠ .clamped ∧
    (withSpeed (tilt .active) 300 .lost).prm.vFree ≤ (withSpeed (tilt .active) 300 .lost).nsc.speed.value := by decide
-- For NoticesWakeADormantNode.
theorem witness_frame_wakes :
    (tilt .dormant).role.isTilt = true ∧ (tilt .dormant).roleOf 2 = .steer ∧
    (let s := (tilt .dormant).setRow 2 ⟨some (⟨0, BitVec.ofInt 16 (-301), 0, 0, 2⟩, 0), none, none⟩
     (s.row 2).rider = some (⟨0, BitVec.ofInt 16 (-301), 0, 0, 2⟩, 0) ∧ s.prm.wake < (BitVec.ofInt 16 (-301)).toInt.natAbs) ∧
    (let s := heard { steer .dormant with nsc := { (steer .dormant).nsc with entryLean := some 0 } } 1 (contrib 1 6 0 101 0 0) 1000
     s.role = .steer ∧ (s.roleOf 1).isTilt = true ∧ s.measured = some 101 ∧ s.nsc.entryLean = some 0 ∧ 100 < ((101 : Int) - 0).natAbs) ∧
    (let s := heard (tilt .dormant) 4 { contrib 2 6 0 0 0 0 with pulse := 31 } 1000
     ∃ c ∈ s.candidates, c.value = some 31 ∧ c.fresh.heard = true ∧ s.prm.vStand < 31) := by decide +kernel
-- For SourcesSetTheirConditions: SWEEP_NOTICE_NSC.
theorem witness_sources_sweep :
    (let s := withView (withSpeed (tilt .dormant) 299 .valid) 0 .live
     s.nsc.node.live = true ∧ s.nsc.node = .dormant ∧ s.nsc.present.has .sensorFailed = false ∧ s.nsc.present.has .inputHeld = false ∧
       { notice with first := .failed }.first = .failed ∧ { notice with second := .held }.second = .held ∧
       s.nsc.speed.status ≠ .held ∧ s.nsc.speed.status ≠ .single ∧ s.pvu.viewStatus = .live ∧
       (after (.sweepNoticeNsc { notice with first := .failed }) s).nsc.node = .clamped ∧
       (after (.sweepNoticeNsc { notice with second := .held }) s).nsc.node = .degraded ∧
       (after (.sweepNoticeNsc notice) s).nsc.node = .dormant) ∧
    (tilt .listen).nsc.node = .listen ∧ (tilt .free).nsc.node = .free := by decide +kernel
-- For SourcesSetTheirConditions: the wakes of R152 at a sweep notice.
theorem witness_sources_wake :
    (let s (x y : Int) : State := { withRecords (tilt .dormant) x 0 40 with nsc := { (tilt .dormant).nsc with entryLean := some y } }
     (s 101 0).role ≠ .steer ∧ (s 101 0).mu.records.shaft.lastGood = some 101 ∧ (s 101 0).nsc.entryLean = some 0 ∧
       100 < ((101 : Int) - 0).natAbs ∧ ¬(100 < ((100 : Int) - 0).natAbs)) ∧
    (let s := withRecords (steer .dormant) 0 (-301) 40
     s.role = .steer ∧ s.mu.records.torque.lastGood = some (-301) ∧ s.prm.wake < (-301 : Int).natAbs) ∧
    (let s := heard (tilt .dormant) 4 { contrib 2 6 0 0 0 0 with pulse := 31 } 1000
     ∃ c ∈ s.candidates, c.value = some 31 ∧ c.fresh.heard = true ∧ s.prm.vStand < 31) := by decide +kernel
-- For SourcesSetTheirConditions: SPEED_STATUS_CHANGE_NSC, VIEW_CHANGE and BFLT_CHANGE.
theorem witness_sources :
    (tilt .dormant).nsc.node.live = true ∧ (tilt .active).nsc.present.has .speedLost = false ∧
    (tilt .active).nsc.present.has .inputHeld = false ∧ (tilt .clamped).nsc.node = .clamped ∧ (tilt .clamped).prm.vFree ≤ 300 ∧
    ¬((tilt .clamped).prm.vFree ≤ 299) ∧ (tilt .active).role.isTilt = true ∧ (tilt .active).nsc.present.has .bridgeFault = false ∧
    (let s := withView (withRecords (tilt .active) 0 0 40) 0 .live
     (after (.speedStatusChangeNsc 0 .valid) s).nsc.node = .active ∧
       (after (.speedStatusChangeNsc 0 .single) { s with nsc := { s.nsc with node := .dormant } }).nsc.node = .degraded ∧
       (after (.viewChange .held) s).nsc.node = .degraded ∧ (after (.viewChange .live) (withSpeed s 0 .valid)).nsc.node = .active ∧
       (after (.bfltChange true) { s with nsc := { s.nsc with node := .dormant } }).nsc.node = .clamped) ∧
    State.reset.nsc.node.live = false ∧ (steer .active).role.isTilt = false := by decide +kernel
-- For PeriodNoticeJoinsAndClears.
theorem witness_join :
    joining.nsc.node = .listen ∧ joining.joinTest = true ∧ 24 ≤ joining.nsc.joinCount ∧
    ({ joining.nsc with joinCount := 23 } : Nsc).joinCount < 24 ∧ (tilt .listen).joinTest = false := by decide +kernel
-- For PeriodNoticeJoinsAndClears.
theorem witness_clear_run :
    (let s (n : Nat) : State := { tilt .degraded with nsc := { (tilt .degraded).nsc with clearRun := n } }
     (s 9).nsc.node = .degraded ∧ 9 ≤ (s 9).nsc.clearRun ∧ (s 8).nsc.clearRun < 9) ∧
    (isDegrading .inputHeld = true ∧ ({ (tilt .degraded).nsc with present := 0x400 } : Nsc).present.has .inputHeld = true) := by decide
-- For PeriodNoticeJoinsAndClears.
theorem witness_nothing_degrading : ∀ c, isDegrading c = true → (tilt .degraded).nsc.present.has c = false := by
  intro c
  cases c <;> decide
-- For DormancyAndRejoining.
theorem witness_dormancy :
    resting.nsc.node = .active ∧ resting.nsc.dormantDwell = some 10000000 ∧ resting.prm.tDormant * 1000 ≤ 10000000 ∧
    9999999 < resting.prm.tDormant * 1000 ∧
    resting.dormantHolds resting.pvu.speed resting.pvu.speedStatus = true ∧
    (withSpeed resting 1 .valid).dormantHolds 1 .valid = false ∧ (tilt .dormant).nsc.node.live = true ∧
    ({ (tilt .free).nsc with rejoin := some 1000000 } : Nsc).rejoin = some 1000000 ∧ 999999 < 1000000 ∧
    (tilt .free).nsc.node = .free := by decide +kernel
/-- An assembler with a number of bytes in. -/
def partly (k : FrameKind) (n : Nat) : Assembler := ⟨9, k, List.replicate n 0, 0, none⟩
-- For ReceiverFollowsTheTable.
theorem witness_receiver :
    ((partly .query 0).kind.hasDest = true ∧ (partly .query 0).bytes = [] ∧ (13 : Byte).toNat ≠ (tilt .active).cl.ownAddr.toNat ∧
      (13 : Byte).toNat ≠ 15) ∧
    (35 < (partly .speed 35).bytes.length + 1 ∧ (partly .speed 35).bytes.length ≤ 35) ∧ (partly .speed 34).bytes.length + 1 ≤ 35 ∧
    (partly .speed 34).run = none ∧ ({ partly .speed 2 with run := some 17 } : Assembler).run = some 17 := by decide
-- For OpenDecidesAcceptance.
theorem witness_open :
    waiting.bi.rx = .waitOpen ∧
    (let f : InFlight := ⟨.contrib, [1], 0, frameChars (openByte .contrib 1) [1], 11⟩
     let s : State := { waiting with bi := { waiting.bi with tx := .sending, inFlight := some f } }
     s.bi.inFlight = some f ∧ f.kind = .contrib ∧ s.bi.tx = .sending ∧ openByte .contrib s.cl.ownAddr = 0x41) ∧
    (0x31 : Byte).extractLsb' 0 4 = waiting.cl.ownAddr ∧ kindOfNat 2 = some .release ∧ waiting.roleOf 9 = .console ∧
    kindOfNat 9 = none ∧ (0x29 : Byte).extractLsb' 0 4 ≠ waiting.cl.ownAddr ∧
    ({ waiting.bi with rx := .skip } : Bi).rx = .skip := by decide +kernel
-- For ShutOffersAGoodFrame.
theorem witness_shut :
    (let a : Assembler := ⟨9, .release, [0xF1, 0x5E, 0x4F], 0, none⟩
     a.run = none ∧ 2 ≤ a.bytes.length ∧ a.crc = 0 ∧ waiting.pvu.processing ≠ none ∧ (tilt .active).pvu.processing = none ∧
       (tilt .active).bi.rfq = [] ∧ (offerFrame [] (a.frame 0)).2 = false ∧
       (offerFrame (offered (List.replicate 8 (9, .override))) (a.frame 0)).2 = true) ∧
    (let busy : State := { waiting with bi := { waiting.bi with
       rx := .inFrame ⟨9, .release, [0xF1, 0x5E, 0x4F], 0, none⟩, rfq := offered (List.replicate 8 (9, .override)) } }
     .conditionReport .queueOverrun true ∈ (after .shutMark busy).handed ∧ busy.pvu.processing ≠ none) := by decide +kernel
-- For ShutOffersAGoodFrame (no frame followed).
theorem witness_shut_elsewhere : waiting.bi.rx = .waitOpen ∧ ({ waiting.bi with rx := .skip } : Bi).rx = .skip ∧
    (tilt .active).bi.rx = .hunt ∧ State.reset.bi.rx = .off := by decide
-- For QueueSettlesAnOffer.
theorem witness_queue :
    (FrameKind.rider.periodic = true ∧ ∃ g ∈ offered [(1, .contrib), (2, .rider)], g.src = 2 ∧ g.kind = .rider) ∧
    (offered (List.replicate 7 (9, .override))).length < 8 ∧ 8 ≤ (offered (List.replicate 8 (9, .override))).length ∧
    (∀ x ∈ offered (List.replicate 8 (9, .override)), x.kind.periodic = false) ∧
    8 ≤ (offered ((1, .contrib) :: List.replicate 7 (9, .override))).length ∧ FrameKind.contrib.periodic = true ∧
    FrameKind.halt.periodic = false := by decide
-- For IdleOpensAndStarts.
theorem witness_idle : full.bi.tx = .waitGap ∧ full.bi.slots.halt = none ∧ full.bi.slots.rider = some ⟨[0, 120, 0, 0, 0, 2], 0⟩ ∧
    waiting.bi.tx ≠ .waitGap := by decide
-- For TransmissionEnds.
theorem witness_transmission :
    (sending .contrib 2).bi.inFlight = some ⟨.contrib, [1], 2, frameChars (openByte .contrib 1) [1], 0⟩ ∧
    FrameKind.hasSlot .contrib = true ∧ (sending .contrib 2).bi.tx = .sending ∧ 2 ≤ 2 ∧ 1 < 2 ∧
    (sending .contrib 2).bi.slots.get .contrib = none ∧
    (let s : State := { sending .report 2 with sr := ⟨true⟩ }
     s.sr.restartPending = true ∧ s.bi.slots.report = none ∧ s.bi.inFlight.map (fun f => f.kind) = some .report) ∧
    (let s (n : Nat) : State := { tilt .active with bi := { (tilt .active).bi with tx := .aborting, abortTime := some n } }
     (s 33).bi.tx = .aborting ∧ (s 33).bi.abortTime = some 33 ∧ (s 32).bi.abortTime = some 32 ∧ (s 33).bi.inFlight = none ∧
       (s 33).bi.tx ≠ .sending) ∧
    (sending .contrib 2).bi.tx ≠ .aborting := by decide +kernel
-- For QueryIsAnswered.
theorem witness_query :
    (tilt .listen).nsc.node.live = true ∧ (tilt .listen).bi.tx ≠ .off ∧ (tilt .listen).sr.restartPending = false ∧
    ({ tilt .active with sr := ⟨true⟩ } : State).sr.restartPending = true ∧ queryCommand 3 0 0 asked = .queryStack 0 0 asked ∧
    ¬(15 ≤ (14 : Byte).toNat) ∧ ¬(11 < (11 : Byte).toNat) ∧ (1 : Byte).toNat * 16 + (2 : Byte).toNat ≤ 255 ∧
    ({ tilt .active with cl := ⟨.good, 1, some image⟩ } : State).cl.image = some image ∧ (steer .active).role = .steer := by decide +kernel
-- For QueryIsAnswered: the cases inside the items.
theorem witness_query_items :
    (tilt .active).nsc.lastHalt = none ∧ (after (.haltHandoff 13 4 7 .service) (tilt .active)).nsc.lastHalt = some ⟨13, 4, 7⟩ ∧
    ((heard (tilt .active) 4 (contrib 2 2 0 0 0 0) 1000).row 4).contrib = some (contrib 2 2 0 0 0 0, 999000) ∧
    (let s := after .frameDone (taking (tilt .active) 2 .rider [0, 120, 0, 0, 0, 2])
     (s.row 2).rider = some (⟨120, 0, 0, 0, 2⟩, 1000000)) ∧
    (let s := after .frameDone (taking (tilt .active) 11 .speed [0xA0, 0x2F, 0x80, 0x15])
     (s.row 11).speed = some (800, 1000000)) ∧
    (standing parked).le.stack[2 * 1 + 1]? = none ∧
    (standing parked).le.stack[2 * 1 + 0]? = some ⟨240, .hold, some (-6), .forever 50, none, false⟩ ∧
    (standing parked).le.stack[2 * 0 + 1]? = some (entry 7 .limit (some 1500) 40 false) ∧
    (entry 7 .limit (some 1500) 40 false).count = .finite 40 ∧ (entry 7 .limit (some 1500) 40 false).origin = some 9 ∧
    (rolling 1200 5469).mu.wheelSpeed = none ∧ (after (.conversionComplete 40) (rolling 1200 5469)).mu.wheelSpeed = some 799 ∧
    (withBrake (tilt .active) .engaged .engaged).bcu.timer = none ∧ (withBrake (tilt .active) .engaging .between).bcu.timer = some (.brake, 300000) ∧
    (withBrake (tilt .active) .preload .engaged).bcu.timer = some (.preload, 50000) ∧
    (tilt .active).tsu.ramp = .idle ∧ (sharing 80 60 4250 1000).tsu.ramp = .complete ∧ (steer .active).addrOf .tiltB ≠ none := by
  decide +kernel
-- For QueryIsAnswered: the candidates of item 7.
theorem witness_query_candidates :
    (let s := heard (tilt .active) 4 { contrib 2 2 0 0 0 0 with pulse := 31 } 1000
     let u := s.pvu.used
     ∃ q ∈ s.candidates.zip [u.own, u.drive, u.peer1, u.peer2], q.1.addr ≠ 15 ∧ q.1.value = some 31) := by decide +kernel
-- For ClearIsActedOn.
theorem witness_clear :
    clearCommand 1 asked = .clearLatches asked ∧ clearCommand 2 asked = .clearRestart asked ∧
    clearCommand 3 asked = .clearUnknownAction 3 asked ∧
    (withSpeed (tilt .active) 29 .single).pvu.speed < prm.vStand ∧ (withSpeed (tilt .active) 29 .single).pvu.speedStatus = .single ∧
    ¬(withSpeed (tilt .free) 30 .valid).pvu.speed < prm.vStand ∧ (tilt .active).sr.restartPending = false ∧
    (tilt .active).bi.tx ≠ .off ∧ ({ (tilt .active).le with overCount := 1 } : Le).overCount = 1 ∧
    (withBrake (tilt .active) .stuck .between).causePresent .brakeStuck = true := by decide
-- For PayloadLayoutsRoundTrip.
theorem witness_payload_lengths : (List.replicate 18 (0xA5 : Byte)).length = 18 ∧ (List.replicate 6 (0xA5 : Byte)).length = 6 := by
  decide
-- For FrameSentIsFrameTaken.
theorem witness_frame_taken :
    waiting.bi.rx = .waitOpen ∧ waiting.pvu.processing ≠ none ∧ (9 : Addr) ≠ waiting.cl.ownAddr ∧
    accepts .release (waiting.roleOf (9 : Addr).toNat) = true ∧ [(0xF1 : Byte)].length ≤ 33 ∧ FrameKind.release.hasDest = false ∧
    accepts .query (waiting.roleOf (13 : Addr).toNat) = true ∧ FrameKind.query.hasDest = true ∧
    ((1 : Byte).toNat = waiting.cl.ownAddr.toNat ∧ (15 : Byte).toNat = 15) := by decide +kernel
-- For FrameSentIsFrameTaken: the bits.
theorem witness_bits :
    (let f : InFlight := ⟨.contrib, [1], 0, frameChars (openByte .contrib 1) [1], 0⟩
     (sending .contrib 0).bi.tx = .sending ∧ (sending .contrib 0).bi.inFlight = some f ∧ f.begun = 0 ∧
       (lineBits (f.chars.map LineChar.word))[[true].length - 1]? = some false ∧ ([true] : List Bool) ≠ [] ∧
       (lineBits (f.chars.map LineChar.word))[54]? = some true) ∧ (sending .contrib 0).bi.rx ≠ .off ∧
    (0b01001010010 : BitVec 11).getLsbD 10 = false ∧ (0b01001010010 : BitVec 11).getLsbD 0 = false ∧
    (after .readbackMismatch (sending .contrib 0)).bi.tx = .aborting ∧ (tilt .active).bi.tx = .idle := by decide +kernel
-- For StepKeepsStackSound.
theorem witness_sound_stack : soundStack (standing parked).le.stack ∧ ∃ t, step (standing parked) = .next t := by
  refine ⟨⟨by decide, by decide, by simp [standing, withStack, parked, entry], ?_⟩, _, rfl⟩
  intro e he
  simp only [standing, withStack, parked, entry, List.mem_cons, List.not_mem_nil, or_false] at he
  rcases he with rfl | rfl | rfl <;> simp [Entry.sound]
-- For StepKeepsBrakeSound.
theorem witness_sound_brake : (withBrake (tilt .active) .releasing .between).bcu.sound ∧
    ∃ t, step (withBrake (tilt .active) .releasing .between) = .next t :=
  ⟨⟨by decide, by decide, by decide⟩, _, rfl⟩
-- For StepKeepsBusSound.
theorem witness_sound_bus : (soundQueue (tilt .active).bi.rfq ∧ (tilt .active).soundBus) ∧ ∃ t, step (tilt .active) = .next t := by
  refine ⟨⟨⟨by decide, by decide⟩, trivial, ?_, ⟨by decide, by decide⟩⟩, _, rfl⟩
  simp [Bi.soundTx, soundSlot, tilt, State.reset, Bi.reset, Slots.lowest]
-- For StepKeepsNodeSound.
theorem witness_sound_node :
    ((tilt .free).soundLatches ∧ (tilt .free).soundFault ∧ (tilt .free).soundCounts ∧ (tilt .free).soundDrive) ∧
    ∃ t, step (tilt .free) = .next t := by
  refine ⟨⟨?_, rfl, ⟨by decide, by decide, by decide, by decide, by decide⟩, ⟨by decide, ?_, by decide⟩⟩, _, rfl⟩
  · intro c _
    cases c <;> decide
  · intro d hd
    simp [tilt, State.reset] at hd
-- For StepKeepsNodeSound: a rejoin timer that runs, and a sweep under way.
theorem witness_sound_rejoin :
    (let s : State := { tilt .free with nsc := { (tilt .free).nsc with rejoin := some 7 } }
     s.soundRejoin ∧ ∃ t, step s = .next t) ∧
    ((after .sweepTimerExpiry (tilt .active)).mu.sound ∧ ∃ t, step (after .sweepTimerExpiry (tilt .active)) = .next t) := by
  refine ⟨⟨⟨fun _ => ⟨Or.inl rfl, ?_, rfl, rfl, rfl⟩, fun _ => rfl⟩, _, rfl⟩, ⟨⟨rfl, rfl, by decide⟩, _, rfl⟩⟩
  intro c _
  cases c <;> rfl

end Sys2Proof.Tests
end

section
/-! SUPPORT. The interpolation primitive on a table with rising x: it looks at a point's successor only, so the points whose
successor lies at or below x can be dropped from the front (R6). -/

namespace Sys2Proof.Machine

/-! ## The points of a table -/

/-- Up to the first x the first y. -/
theorem interp_of_le_head {p : Nat × Nat} {rest : List (Nat × Nat)} {x : Int} (h : x ≤ p.1) :
    interp (p :: rest) x = p.2 := by
  cases rest with
  | nil => rfl
  | cons q rest => exact if_pos h

/-- Between the first two points the truncated line through them; at the first its numerator is 0. -/
theorem interp_of_lt_second {p q : Nat × Nat} {rest : List (Nat × Nat)} {x : Int} (hp : (p.1 : Int) ≤ x) (hq : x < q.1) :
    interp (p :: q :: rest) x = p.2 + (((q.2 : Int) - p.2) * (x - p.1)).tdiv ((q.1 : Int) - p.1) := by
  rcases hp.eq_or_lt with rfl | hlt
  · simp [interp_of_le_head]
  · exact (if_neg hlt.not_ge).trans (if_pos hq)

/-- From the second point on the first one does not count. -/
theorem interp_of_second_le {p q : Nat × Nat} {rest : List (Nat × Nat)} {x : Int} (hpq : p.1 < q.1) (hq : (q.1 : Int) ≤ x) :
    interp (p :: q :: rest) x = interp (q :: rest) x := by
  have hp : ¬ x ≤ (p.1 : Int) := by omega
  exact (if_neg hp).trans (if_neg hq.not_gt)

/-- The head of a table with rising x has the least x. -/
theorem head_fst_le_of_mem {q r : Nat × Nat} {rest : List (Nat × Nat)}
    (hrise : (q :: rest).Pairwise (fun p q => p.1 < q.1)) (hr : r ∈ q :: rest) : q.1 ≤ r.1 := by
  rcases List.mem_cons.mp hr with rfl | hmem
  · exact le_rfl
  · exact (List.rel_of_pairwise_cons hrise hmem).le

/-- With some later point at or below x the first one does not count. -/
theorem interp_cons_of_mem_le {p r : Nat × Nat} {rest : List (Nat × Nat)} {x : Int}
    (hrise : (p :: rest).Pairwise (fun p q => p.1 < q.1)) (hr : r ∈ rest) (hx : (r.1 : Int) ≤ x) :
    interp (p :: rest) x = interp rest x := by
  cases rest with
  | nil => simp at hr
  | cons q rest =>
    have hpq : p.1 < q.1 := List.rel_of_pairwise_cons hrise List.mem_cons_self
    have hqr : q.1 ≤ r.1 := head_fst_le_of_mem hrise.of_cons hr
    exact interp_of_second_le hpq (by omega)

/-! ## The table as a whole -/

/-- From the last x on the last y. -/
theorem interp_of_getLast?_le {t : List (Nat × Nat)} {p : Nat × Nat} {x : Int}
    (hrise : t.Pairwise (fun p q => p.1 < q.1)) (hp : t.getLast? = some p) (hx : (p.1 : Int) ≤ x) : interp t x = p.2 := by
  induction t with
  | nil => simp at hp
  | cons a rest ih =>
    cases rest with
    | nil =>
      obtain rfl : a = p := by simpa using hp
      rfl
    | cons b rest =>
      rw [List.getLast?_cons_cons] at hp
      rw [interp_cons_of_mem_le hrise (List.mem_of_getLast? hp) hx]
      exact ih hrise.of_cons hp

/-- Between two neighbouring points of a table with rising x the truncated line through them. -/
theorem interp_of_getElem?_between {t : List (Nat × Nat)} {i : Nat} {p q : Nat × Nat} {x : Int}
    (hrise : t.Pairwise (fun p q => p.1 < q.1)) (hp : t[i]? = some p) (hq : t[i + 1]? = some q)
    (hpx : (p.1 : Int) ≤ x) (hxq : x < q.1) :
    interp t x = p.2 + (((q.2 : Int) - p.2) * (x - p.1)).tdiv ((q.1 : Int) - p.1) := by
  induction i generalizing t with
  | zero =>
    obtain ⟨rest, rfl⟩ : ∃ rest, t = p :: q :: rest := by
      match t, hp, hq with
      | a :: b :: rest, hp, hq => simp_all
    exact interp_of_lt_second hpx hxq
  | succ i ih =>
    cases t with
    | nil => simp at hp
    | cons a rest =>
      rw [List.getElem?_cons_succ] at hp hq
      rw [interp_cons_of_mem_le hrise (List.mem_of_getElem? hp) hpx]
      exact ih hrise.of_cons hp hq

/-- Settles O5: the first point by definition, the last and the inner ones by dropping the points before them. -/
theorem interpolationFollowsTheTable : Obligations.InterpolationFollowsTheTable := by
  intro t x _ hrise
  refine ⟨fun p hp hx => ?_, fun p hp hx => interp_of_getLast?_le hrise hp hx,
    fun i p q hp hq hpx hxq => interp_of_getElem?_between hrise hp hq hpx hxq⟩
  obtain ⟨rest, rfl⟩ := List.head?_eq_some_iff.mp hp
  exact interp_of_le_head hx

end Sys2Proof.Machine
end

section
/-! SUPPORT. The low-speed fade by its three ranges of speed and as an odd function of S4 (R12), and the image's checks one by
one (R173). -/

namespace Sys2Proof.Machine

/-! ## The fade -/

/-- Up to v_fl the fade is complete. -/
theorem State.s5_of_speed_le {s : State} (h : s.pvu.speed ≤ s.prm.vFl) : s.s5 = 0 := if_pos h

/-- From v_fh on there is no fade. -/
theorem State.s5_of_le_speed {s : State} (hl : s.prm.vFl < s.pvu.speed) (hh : s.prm.vFh ≤ s.pvu.speed) : s.s5 = s.s4 :=
  (if_neg hl.not_ge).trans (if_pos hh)

/-- Between v_fl and v_fh the truncated fraction. -/
theorem State.s5_of_speed_between {s : State} (hl : s.prm.vFl < s.pvu.speed) (hh : s.pvu.speed < s.prm.vFh) :
    s.s5 = (s.s4 * ((s.pvu.speed : Int) - s.prm.vFl)).tdiv ((s.prm.vFh : Int) - s.prm.vFl) :=
  (if_neg hl.not_ge).trans (if_neg hh.not_ge)

/-- The fade is odd in S4 in each range, since the truncation is toward zero for either sign. -/
theorem State.s5_neg {s t : State} (hprm : s.prm = t.prm) (hv : s.pvu.speed = t.pvu.speed) (h4 : t.s4 = -s.s4) :
    t.s5 = -s.s5 := by
  rcases Nat.lt_or_ge s.prm.vFl s.pvu.speed with hl | hl
  · have hl' : t.prm.vFl < t.pvu.speed := hprm ▸ hv ▸ hl
    rcases Nat.lt_or_ge s.pvu.speed s.prm.vFh with hh | hh
    · have hh' : t.pvu.speed < t.prm.vFh := hprm ▸ hv ▸ hh
      rw [s5_of_speed_between hl hh, s5_of_speed_between hl' hh', h4, ← hprm, ← hv, Int.neg_mul, Int.neg_tdiv]
    · have hh' : t.prm.vFh ≤ t.pvu.speed := hprm ▸ hv ▸ hh
      rw [s5_of_le_speed hl hh, s5_of_le_speed hl' hh', h4]
  · have hl' : t.pvu.speed ≤ t.prm.vFl := hprm ▸ hv ▸ hl
    rw [s5_of_speed_le hl, s5_of_speed_le hl', Int.neg_zero]

/-! ## The checks of an image -/

/-- An image is good when it passes each of the eight checks. -/
theorem imageGood_iff (im : Image) (straps : Addr) : imageGood im straps = true ↔
    imageCrcGood im = true ∧ imageAddressGood im straps = true ∧ imageRoleGood im = true ∧ imageRosterGood im = true ∧
    paramTablesGood (paramsOf im) = true ∧ paramOrdersGood (paramsOf im) = true ∧ paramRangesGood (paramsOf im) = true ∧
    imageDescriptorsGood im = true := by
  simp only [imageGood, Bool.and_eq_true, and_assoc]

/-- The order check as inequalities. -/
theorem paramOrdersGood_iff (p : Params) : paramOrdersGood p = true ↔
    p.vFl < p.vFh ∧ p.vStand < p.vUnlock ∧ p.vUnlock < p.vFree ∧ p.phiMax + 100 ≤ p.phiStop ∧ p.phiStop ≤ 4999 ∧
    p.fresh < p.stale ∧ p.td1 < p.td2 := by
  simp only [paramOrdersGood, Bool.and_eq_true, decide_eq_true_eq, and_assoc]

/-- A parameter that passes the range check lies in its range. -/
theorem within_of_paramRangesGood {p : Params} {n low high : Nat} (h : paramRangesGood p = true)
    (hn : (n, low, high) ∈ paramRanges p) : low ≤ n ∧ n ≤ high := by
  simp only [paramRangesGood, Bool.and_eq_true, List.all_eq_true, decide_eq_true_eq] at h
  obtain ⟨⟨⟨hall, -⟩, -⟩, -⟩ := h
  exact hall _ hn

/-- Settles O6: the three ranges of the fade, its oddness, and the order and range checks of v_fl and v_fh. -/
theorem lowSpeedFade : Obligations.LowSpeedFade := by
  refine ⟨fun s hlh => ⟨State.s5_of_speed_le, fun hh => State.s5_of_le_speed (hlh.trans_le hh) hh,
    State.s5_of_speed_between⟩, fun s t => State.s5_neg, fun im a hgood => ?_⟩
  obtain ⟨-, -, -, -, -, horders, hranges, -⟩ := (imageGood_iff im a).mp hgood
  have hmem : ((paramsOf im).vFh, 0, 2500) ∈ paramRanges (paramsOf im) := by simp [paramRanges]
  obtain ⟨hlh, -⟩ := (paramOrdersGood_iff _).mp horders
  obtain ⟨-, hmax⟩ := within_of_paramRangesGood hranges hmem
  exact ⟨hlh, hmax⟩

end Sys2Proof.Machine
end

section
/-! SUPPORT. A refresh as an operation on the list of entries and as the verdict of the checks (R28, R29). -/

namespace Sys2Proof.Machine

/-! ## The count and the list -/

/-- A refresh changes no tag, so not that of the top. -/
theorem topTag_setCount (tag : Byte) (c : Count) (l : List Entry) : topTag (setCount tag c l) = topTag l := by
  cases l with
  | nil => rfl
  | cons e rest => by_cases h : e.tag = tag <;> simp [topTag, setCount, h]

/-- A count of 0 that no SERVICE station sends settles no count. -/
theorem refreshCount_zero_of_ne_service {role : Role} (old : Count) (h : role ≠ .service) :
    refreshCount role 0 old = none := (if_pos rfl).trans (if_neg h)

/-- The count a refresh settles: the one sent, or for the 0 of a SERVICE station FOREVER, with the held count of an entry that
is FOREVER already. -/
theorem refreshCount_eq_some {role : Role} {count : Half} {old c : Count} (hrole : count = 0 → role = .service)
    (hsent : count ≠ 0 → c = .finite count.toNat)
    (hzero : count = 0 → (∀ n, old = .finite n → c = .forever 0) ∧ (∀ h, old = .forever h → c = .forever h)) :
    refreshCount role count old = some c := by
  rcases eq_or_ne count 0 with rfl | hne
  · obtain rfl := hrole rfl
    obtain ⟨hfinite, hforever⟩ := hzero rfl
    cases old with
    | finite n => rw [hfinite n rfl]; rfl
    | forever h => rw [hforever h rfl]; rfl
  · rw [hsent hne]
    exact if_neg hne

/-! ## The verdict and the request -/

/-- For a standing tag and its own kind the count decides alone: neither the speed nor the depth of the stack is looked at. -/
theorem State.judge_standing {s : State} {tag kind : Byte} {e : Entry} (src : Addr) (role : Role) (angle count : Half)
    (h0 : tag ≠ 0) (hlt : tag.toNat < 240) (hfind : s.le.stack.find? (fun x => x.tag == tag) = some e)
    (hkind : overrideOfByte kind = some e.kind) :
    s.judge src role tag kind angle count = (refreshCount role count e.count).elim (.refuse .countZero) .refresh := by
  have hfree : ¬ (tag = 0 ∨ 240 ≤ tag.toNat) := not_or.mpr ⟨h0, hlt.not_ge⟩
  simp only [State.judge, if_neg hfree, hkind, hfind, ne_eq, not_true_eq_false, if_false]
  cases refreshCount role count e.count <;> rfl

/-- A request taken by an LE that runs is judged on the state as it stands, settled, and in DORMANT reported. -/
theorem exec_overrideRequest_of_live {s : State} (src : Addr) (role : Role) (tag kind : Byte) (angle count : Half)
    (hlive : s.nsc.node.live = true) :
    exec (.overrideRequest src role tag kind angle count) s =
      .next ((s.taken (.overrideRequest src role tag kind angle count)).settleOverride tag
        (s.judge src role tag kind angle count)).wakeIfDormant :=
  congrArg Host.Outcome.next (if_pos hlive)

/-- A refusal sets the last refusal and, in DORMANT, hands on the wake cause. -/
theorem State.settleOverride_refuse_wake (s : State) (tag : Byte) (r : RefusalReason) :
    (s.settleOverride tag (.refuse r)).wakeIfDormant = { s with
      le := { s.le with lastRefusal := r }
      handed := s.handed ++ if s.nsc.node = .dormant then [.wakeCauseReport] else [] } :=
  State.wakeIfDormant_eq _

/-- A refresh gives no top-change notice: of the hand-offs it adds the wake cause alone, and of the LE it changes the counts, the
last refusal and the dwell. -/
theorem State.settleOverride_refresh_wake (s : State) (tag : Byte) (c : Count) :
    ∃ dwell, (s.settleOverride tag (.refresh c)).wakeIfDormant = { s with
      le := { s.le with stack := setCount tag c s.le.stack, lastRefusal := .accepted, dwell := dwell }
      handed := s.handed ++ if s.nsc.node = .dormant then [.wakeCauseReport] else [] } := by
  refine ⟨(s.setStack (setCount tag c s.le.stack)).le.dwell, ?_⟩
  rw [State.wakeIfDormant_eq, State.settleOverride, State.setStack_eq, if_pos (topTag_setCount tag c _), List.append_nil]
  rfl

/-- Settles O11: a standing tag of the same kind is judged by its count alone, and `refreshCount` is what the statement calls
`c`, or none. -/
theorem overrideRefreshReplacesTheCount : Obligations.OverrideRefreshReplacesTheCount := by
  intro s src role tag kind angle count e hlive h0 hlt hfind hkind
  have hexec := exec_overrideRequest_of_live src role tag kind angle count hlive
  rw [State.judge_standing src role angle count h0 hlt hfind hkind] at hexec
  refine ⟨fun c hrole hsent hzero => ?_, fun hcount hrole => ?_⟩
  · rw [refreshCount_eq_some hrole hsent hzero] at hexec
    obtain ⟨dwell, hsettled⟩ := State.settleOverride_refresh_wake
      (s.taken (.overrideRequest src role tag kind angle count)) tag c
    exact ⟨_, hexec.trans (congrArg _ hsettled), rfl, rfl, rfl⟩
  · subst hcount
    rw [refreshCount_zero_of_ne_service e.count hrole] at hexec
    exact hexec.trans (congrArg _ (State.settleOverride_refuse_wake _ tag .countZero))

end Sys2Proof.Machine
end

section
/-! SUPPORT. The advance of the top entry, at one expiry and over several (R35). -/

namespace Sys2Proof.Machine

/-! ## One expiry -/

/-- The last expiry of a finite count pops the entry with the marked ones below it. -/
theorem advanceTop_finite_one {e : Entry} (rest : List Entry) (he : e.count = .finite 1) :
    advanceTop (e :: rest) = rest.dropWhile (fun x => x.pending) := by
  rw [← surface_eq_dropWhile]
  simp [advanceTop, he]

/-- Before its last expiry a finite count goes down by one. -/
theorem advanceTop_finite_of_lt {e : Entry} {n : Nat} (rest : List Entry) (he : e.count = .finite n) (hn : 1 < n) :
    advanceTop (e :: rest) = { e with count := .finite (n - 1) } :: rest := by
  simp [advanceTop, he, hn.not_ge]

/-- A FOREVER entry counts its expiries as top, up to 65535. -/
theorem advanceTop_forever {e : Entry} {h : Nat} (rest : List Entry) (he : e.count = .forever h) :
    advanceTop (e :: rest) = { e with count := .forever (min (h + 1) 65535) } :: rest := by
  simp [advanceTop, he]

/-! ## Several expiries -/

/-- A finite entry stands at the expiries before the one its count names, with what is left of the count. -/
theorem advanceTop_iterate_finite {e : Entry} {n : Nat} (rest : List Entry) (he : e.count = .finite n) (k : Nat) (hk : k < n) :
    advanceTop^[k] (e :: rest) = { e with count := .finite (n - k) } :: rest := by
  induction k with
  | zero => rw [Nat.sub_zero, ← he]; rfl
  | succ k ih =>
    rw [Function.iterate_succ_apply', ih (by omega), advanceTop_finite_of_lt rest rfl (by omega), Nat.sub_sub]

/-- A finite entry leaves at the expiry its count names. -/
theorem advanceTop_iterate_finite_count {e : Entry} {n : Nat} (rest : List Entry) (he : e.count = .finite n) (hn : 1 ≤ n) :
    advanceTop^[n] (e :: rest) = rest.dropWhile (fun x => x.pending) := by
  obtain ⟨m, rfl⟩ := Nat.exists_eq_add_of_le' hn
  rw [Function.iterate_succ_apply', advanceTop_iterate_finite rest he m m.lt_succ_self, Nat.add_sub_cancel_left]
  exact advanceTop_finite_one rest rfl

/-- A FOREVER entry stays at every expiry, its held count saturating at 65535. -/
theorem advanceTop_iterate_forever {e : Entry} {h : Nat} (rest : List Entry) (he : e.count = .forever h) (hh : h ≤ 65535)
    (k : Nat) : advanceTop^[k] (e :: rest) = { e with count := .forever (min (h + k) 65535) } :: rest := by
  induction k with
  | zero => rw [Nat.add_zero, min_eq_left hh, ← he]; rfl
  | succ k ih =>
    have hstep : min (min (h + k) 65535 + 1) 65535 = min (h + (k + 1)) 65535 := by omega
    rw [Function.iterate_succ_apply', ih, advanceTop_forever rest rfl, hstep]

/-! ## The period expiry -/

/-- Outside the tracking states the lean target is slewed from the previous target to what the stack resolves to. -/
theorem State.leanTarget_of_not_tracking {s : State} (h : s.nsc.node.tracking = false) :
    s.leanTarget = s.s8 s.prevTarget := by
  simp [State.leanTarget, h]

/-- The new-target record of an expiry is handed on, with the summary of the stack as advanced (R17, R35). -/
theorem State.recordNotice_mem_periodExpiry (s : State) :
    s.recordNotice (targetRecord s.leanTarget s.rateTarget (advanceTop s.le.stack) s.le.lastRefusal) ∈
      s.periodExpiry.handed := by
  rw [State.periodExpiry_handed]
  simp only [List.mem_append, List.mem_singleton, true_or, or_true]

/-- Settles O14: the expiry as one update of the state has the advanced stack beside the target resolved from the old one; the
counts go by induction on the number of expiries. -/
theorem topEntryAdvancesAtAnExpiry : Obligations.TopEntryAdvancesAtAnExpiry := by
  refine ⟨fun s hlive => ⟨s.periodExpiry, congrArg Host.Outcome.next (if_pos hlive), ?_, ?_, fun htrack => ?_⟩,
    fun n e rest he hn => ⟨advanceTop_iterate_finite rest he, advanceTop_iterate_finite_count rest he hn⟩,
    fun h k e rest he hh => advanceTop_iterate_forever rest he hh k, rfl⟩
  · rw [State.periodExpiry_eq]
  · have hrecord := s.recordNotice_mem_periodExpiry
    rw [State.periodExpiry_eq] at hrecord ⊢
    exact hrecord
  · rw [State.periodExpiry_eq]
    exact State.leanTarget_of_not_tracking htrack

end Sys2Proof.Machine
end

section
/-! SUPPORT. The unit that takes each command, and the part of the state that a unit's commands can change: one frame for
each unit, so that an invariant looks at the commands of the units that can touch it and at no others. -/

namespace Sys2Proof.Machine

/-- Who takes a command: a reset, the image loader, or the unit of the block that its row belongs to. -/
inductive Taker where
  | reset | loader | le | tsu | slu | bcu | mu | pvu | nsc | line | tx | query | clear
  deriving DecidableEq

/-- The taker of each command. -/
def takerOf : Instr → Taker
  | .fullReset .. | .restart => .reset
  | .imageReadComplete _ => .loader
  | .periodExpiry | .overrideRequest .. | .releaseRequest .. | .autoLockDwellExpiry | .speedStatusChangeLe ..
  | .nodeStateChangeLe .. => .le
  | .newTargetArrivalTsu _ | .nodeStateChangeTsu .. => .tsu
  | .newTargetArrivalSlu _ | .nodeStateChangeSlu .. | .sweepNoticeSlu _ => .slu
  | .switchChange .. | .tBrakeExpiry | .tPreloadExpiry | .sweepNoticeBcu _ | .topChangeNoticeBcu _
  | .speedStatusChangeBcu .. | .nodeStateChangeBcu .. => .bcu
  | .sweepTimerExpiry | .readyEvent _ | .readyTimeout | .conversionComplete _ | .wheelEdge => .mu
  | .frameDone | .sweepNoticePvu _ | .handlebarRampStep | .speedHoldExpiry | .handlebarHoldExpiry | .rowSweepExpiry => .pvu
  | .conditionReport .. | .haltHandoff .. | .frameNotice .. | .wakeCauseReport | .sweepNoticeNsc _
  | .speedStatusChangeNsc .. | .viewChange _ | .topChangeNoticeNsc _ | .bfltChange _ | .periodNotice
  | .rejoinTimerExpiry | .dormantDwellExpiry => .nsc
  | .dataCharacter _ | .openMark _ | .runMark _ | .shutMark | .unnamedMark _ | .framingError | .lineBreak | .frameTimeout
  | .idle => .line
  | .frameSent | .arbitrationLoss | .readbackMismatch | .abortBreakEnd => .tx
  | .queryNodeState .. | .queryPeerRow .. | .queryStack .. | .queryRecords .. | .queryImage .. | .queryBrake ..
  | .queryConsensus .. | .queryUnit .. | .queryUnknownItem .. => .query
  | .clearLatches _ | .clearRestart _ | .clearUnknownAction .. => .clear

/-- Every block was set to its reset values, on some pins, with some latches and last HALT kept. -/
def ResetOf (s t : State) : Prop :=
  ∃ pins latches lastHalt, t = resetNode { s with pins := pins } latches lastHalt

/-- What the commands of a taker can change: `t` is `s` but for the fields named. -/
def Frame (s t : State) : Taker → Prop
  | .reset => t = s ∨ ResetOf s t
  | .loader => t = { s with
      cl := t.cl, prm := t.prm, le := { s.le with periodTimer := t.le.periodTimer }
      mu := { s.mu with records := t.mu.records, sweepTimer := t.mu.sweepTimer }, pvu := t.pvu, nsc := t.nsc
      bi := { s.bi with rx := t.bi.rx, tx := t.bi.tx }, handed := t.handed }
  | .le => t = { s with le := t.le, handed := t.handed }
  | .tsu => t = { s with
      tsu := t.tsu, drive := t.drive, pvu := { s.pvu with table := t.pvu.table }
      nsc := { s.nsc with sendCount := t.nsc.sendCount }, bi := t.bi, handed := t.handed, free := t.free }
  | .slu => t = { s with
      slu := t.slu, drive := t.drive, pvu := { s.pvu with table := t.pvu.table }
      nsc := { s.nsc with sendCount := t.nsc.sendCount }, bi := t.bi, handed := t.handed, free := t.free }
  | .bcu => t = { s with pins := t.pins, bcu := t.bcu, handed := t.handed }
  | .mu => t = { s with mu := t.mu, handed := t.handed }
  | .pvu => t = { s with pvu := t.pvu, bi := { s.bi with rfq := t.bi.rfq }, handed := t.handed }
  | .nsc => t = { s with pins := t.pins, nsc := t.nsc, bi := t.bi, handed := t.handed }
  | .line => t = { s with bi := t.bi, pvu := t.pvu, handed := t.handed }
  | .tx => t = { s with bi := t.bi, handed := t.handed } ∨ ResetOf s t
  | .query => t = { s with bi := t.bi, handed := t.handed, free := t.free }
  | .clear => t = { s with nsc := t.nsc, bi := t.bi, sr := t.sr, handed := t.handed, free := t.free }

/-! ## The frame of each unit's commands -/

/-- Settling a request changes the LE and the hand-offs. -/
theorem State.settleOverride_frame (s : State) (tag : Byte) (v : Verdict) : Frame s (s.settleOverride tag v) .le := by
  cases v with
  | refuse r => rfl
  | refresh c => simp only [State.settleOverride, State.setStack_eq]; rfl
  | push e => simp only [State.settleOverride, State.setStack_eq]; rfl

theorem exec_frame_le {c : Instr} {s t : State} (hc : takerOf c = .le) (h : exec c s = .next t) : Frame s t .le := by
  cases c <;> cases hc <;> cases h
  case periodExpiry =>
    split
    · rw [State.periodExpiry_eq]; rfl
    · rfl
  case overrideRequest =>
    dsimp only
    split
    · rw [State.wakeIfDormant_eq, State.settleOverride_frame]; rfl
    · rfl
  case releaseRequest =>
    dsimp only
    split
    · rw [State.wakeIfDormant_eq, State.setStack_eq]; rfl
    · rfl
  case autoLockDwellExpiry =>
    repeat' split
    all_goals first | rfl | (rw [State.setStack_eq]; rfl)
  case speedStatusChangeLe =>
    dsimp only
    split
    · split
      · rw [State.setStack_eq]; rfl
      · rfl
    · rfl
  case nodeStateChangeLe =>
    dsimp only
    split
    · rw [State.setStack_eq]; rfl
    · rfl

theorem exec_frame_pvu {c : Instr} {s t : State} (hc : takerOf c = .pvu) (h : exec c s = .next t) : Frame s t .pvu := by
  cases c <;> cases hc <;> cases h
  case frameDone =>
    repeat' split
    all_goals first | rfl | (rw [State.nextFrame_eq, State.applyFrame_eq]; rfl)
  case sweepNoticePvu =>
    dsimp only
    repeat' split
    · rw [State.viewSweep_eq, State.reevaluate_eq]; rfl
    · rw [State.reevaluate_eq]; rfl
    · rfl
  case handlebarRampStep =>
    dsimp only
    split
    · rw [State.rampStep_eq]; rfl
    · rfl
  case speedHoldExpiry =>
    split
    · rw [State.reevaluate_eq]; rfl
    · rfl
  case handlebarHoldExpiry =>
    split
    · rw [State.setView_eq]; rfl
    · rfl
  case rowSweepExpiry => split <;> rfl

theorem exec_frame_reset {c : Instr} {s t : State} (hc : takerOf c = .reset) (h : exec c s = .next t) :
    Frame s t .reset := by
  cases c <;> cases hc <;> cases h
  case fullReset ads b1 b2 low => exact .inr ⟨_, _, _, rfl⟩
  case restart =>
    split
    · exact .inr ⟨s.pins, _, _, rfl⟩
    · exact .inl rfl

theorem exec_frame_loader {c : Instr} {s t : State} (hc : takerOf c = .loader) (h : exec c s = .next t) :
    Frame s t .loader := by
  cases c <;> cases hc
  case imageReadComplete =>
    cases h
    split
    · split
      · rfl
      · unfold State.imageRefused; rw [State.report_eq]; rfl
    · rfl

theorem exec_frame_tsu {c : Instr} {s t : State} (hc : takerOf c = .tsu) (h : exec c s = .next t) : Frame s t .tsu := by
  cases c <;> cases hc <;> cases h
  case newTargetArrivalTsu =>
    dsimp only
    split
    · rw [State.tsuArrival_eq]; rfl
    · rfl
  case nodeStateChangeTsu => dsimp only; split <;> rfl

theorem exec_frame_slu {c : Instr} {s t : State} (hc : takerOf c = .slu) (h : exec c s = .next t) : Frame s t .slu := by
  cases c <;> cases hc <;> cases h
  case newTargetArrivalSlu =>
    dsimp only
    split
    · rw [State.sluArrival_eq]; rfl
    · rfl
  case nodeStateChangeSlu => dsimp only; split <;> rfl
  case sweepNoticeSlu =>
    dsimp only
    split
    · rw [State.riderStep_eq]; rfl
    · rfl

theorem exec_frame_bcu {c : Instr} {s t : State} (hc : takerOf c = .bcu) (h : exec c s = .next t) : Frame s t .bcu := by
  cases c <;> cases hc <;> cases h
  case switchChange => dsimp only; split <;> rfl
  case tBrakeExpiry =>
    repeat' split
    · rw [State.engagingExpiry_eq]; rfl
    · rw [State.releasingExpiry_eq]; rfl
    all_goals rfl
  case tPreloadExpiry => split <;> rfl
  case sweepNoticeBcu =>
    dsimp only
    split
    · rw [State.bcuSweep_eq]; rfl
    · rfl
  all_goals
    dsimp only
    split
    · rw [State.evalDemand_eq]; rfl
    · rfl

/-- The end of a transaction changes the MU and the hand-offs. -/
theorem State.endTransaction_frame (s : State) (rd : Reading) : Frame s (s.endTransaction rd) .mu := by
  unfold State.endTransaction
  repeat' split
  all_goals rfl

theorem exec_frame_mu {c : Instr} {s t : State} (hc : takerOf c = .mu) (h : exec c s = .next t) : Frame s t .mu := by
  cases c <;> cases hc <;> cases h
  case sweepTimerExpiry => split <;> rfl
  case wheelEdge => split <;> rfl
  all_goals
    repeat' split
    all_goals first | rfl | exact State.endTransaction_frame s _

/-! Each operation of the NSC keeps the frame of the NSC's commands. -/

theorem Frame.setNsc {s t : State} (h : Frame s t .nsc) (n : Nsc) : Frame s (t.setNsc n) .nsc := by
  simp only [Frame] at h ⊢; rw [h]; rfl

theorem Frame.enterNode {s t : State} (h : Frame s t .nsc) (n : NodeState) : Frame s (t.enterNode n) .nsc := by
  simp only [Frame] at h ⊢; rw [h]; rfl

theorem Frame.evalRejoin {s t : State} (h : Frame s t .nsc) : Frame s t.evalRejoin .nsc := h.setNsc _

theorem Frame.evalDormant {s t : State} (h : Frame s t .nsc) (n : NodeState) (v : Nat) (st : SpeedStatus) :
    Frame s (t.evalDormant n v st) .nsc := by
  rw [State.evalDormant_eq]; exact h.setNsc _

theorem Frame.onPresent {s t : State} (h : Frame s t .nsc) (c : Condition) : Frame s (t.onPresent c) .nsc := by
  rw [State.onPresent_eq]; simp only [Frame] at h ⊢; rw [h]

theorem Frame.report {s t : State} (h : Frame s t .nsc) (c : Condition) (b : Bool) : Frame s (t.report c b) .nsc := by
  rw [State.report_eq]; simp only [Frame] at h ⊢; rw [h]

theorem Frame.wakeWhen {s t : State} (h : Frame s t .nsc) (b : Bool) : Frame s (t.wakeWhen b) .nsc := by
  rw [State.wakeWhen_eq]
  split
  · exact h.enterNode _
  · exact h

theorem Frame.countPeriod {s t : State} (h : Frame s t .nsc) : Frame s t.countPeriod .nsc := by
  rw [State.countPeriod_eq]; simp only [Frame] at h ⊢; rw [h]

theorem State.taken_frame (s : State) (i : Instr) : Frame s (s.taken i) .nsc := rfl

theorem exec_frame_nsc {c : Instr} {s t : State} (hc : takerOf c = .nsc) (h : exec c s = .next t) : Frame s t .nsc := by
  cases c <;> cases hc <;> cases h
  case conditionReport c b =>
    dsimp only
    refine ((Frame.report ?_ c b).evalDormant _ _ _).evalRejoin
    split
    · rw [State.fill_eq]; rfl
    · rfl
  case haltHandoff =>
    dsimp only
    split
    · exact (((s.taken_frame _).setNsc _).onPresent _).evalRejoin
    · rfl
  case frameNotice => exact (s.taken_frame _).wakeWhen _
  case wakeCauseReport => exact (s.taken_frame _).wakeWhen _
  case sweepNoticeNsc =>
    dsimp only
    split
    · exact ((((s.taken_frame _).report _ _).report _ _).wakeWhen _).evalRejoin
    · rfl
  case speedStatusChangeNsc =>
    dsimp only
    split
    · refine Frame.evalRejoin (Frame.evalDormant ?_ _ _ _)
      split
      · exact ((((s.taken_frame _).setNsc _).report _ _).report _ _).enterNode _
      · exact (((s.taken_frame _).setNsc _).report _ _).report _ _
    · rfl
  case viewChange =>
    dsimp only
    split
    · exact ((s.taken_frame _).report _ _).evalRejoin
    · rfl
  case topChangeNoticeNsc =>
    dsimp only
    split
    · exact (((s.taken_frame _).setNsc _).wakeWhen _).evalDormant _ _ _
    · rfl
  case bfltChange low =>
    dsimp only
    have h : Frame s { s with pins := { s.pins with bfltLow := low } } .nsc := rfl
    split
    · exact (h.report _ _).evalRejoin
    · exact h
  case periodNotice =>
    dsimp only
    split
    · exact (s.taken_frame _).countPeriod.evalDormant _ _ _
    · rfl
  case rejoinTimerExpiry => split <;> rfl
  case dormantDwellExpiry => (repeat' split) <;> rfl

theorem exec_frame_line {c : Instr} {s t : State} (hc : takerOf c = .line) (h : exec c s = .next t) : Frame s t .line := by
  cases c <;> cases hc <;> cases h
  case openMark => rw [rxOpen_eq, State.readLine_eq]; rfl
  case shutMark => rw [rxShut_eq, State.readLine_eq]; rfl
  case idle =>
    dsimp only
    split
    · rw [State.startSending_eq, State.readLine_eq]; rfl
    · rw [State.readLine_eq]; rfl
  all_goals rw [State.readLine_eq]; rfl

theorem exec_frame_tx {c : Instr} {s t : State} (hc : takerOf c = .tx) (h : exec c s = .next t) : Frame s t .tx := by
  cases c <;> cases hc <;> cases h
  case frameSent =>
    repeat' split
    · exact .inr ⟨s.pins, _, _, rfl⟩
    all_goals exact .inl rfl
  case arbitrationLoss => split <;> exact .inl rfl
  case readbackMismatch =>
    repeat' split
    · exact .inl rfl
    · exact .inr ⟨s.pins, _, _, rfl⟩
    all_goals exact .inl rfl
  case abortBreakEnd => split <;> exact .inl rfl

theorem exec_frame_query {c : Instr} {s t : State} (hc : takerOf c = .query) (h : exec c s = .next t) :
    Frame s t .query := by
  cases c <;> cases hc <;> cases h
  all_goals rw [State.query_eq]; rfl

theorem exec_frame_clear {c : Instr} {s t : State} (hc : takerOf c = .clear) (h : exec c s = .next t) :
    Frame s t .clear := by
  cases c <;> cases hc <;> cases h
  all_goals
    dsimp only
    repeat' split
    all_goals first | rfl | (simp only [State.replyClear, State.reply_eq]; rfl)

/-- What a command does to the state lies in the frame of its taker. -/
theorem exec_frame {c : Instr} {s t : State} (h : exec c s = .next t) : Frame s t (takerOf c) := by
  cases hc : takerOf c with
  | reset => exact exec_frame_reset hc h
  | loader => exact exec_frame_loader hc h
  | le => exact exec_frame_le hc h
  | tsu => exact exec_frame_tsu hc h
  | slu => exact exec_frame_slu hc h
  | bcu => exact exec_frame_bcu hc h
  | mu => exact exec_frame_mu hc h
  | pvu => exact exec_frame_pvu hc h
  | nsc => exact exec_frame_nsc hc h
  | line => exact exec_frame_line hc h
  | tx => exact exec_frame_tx hc h
  | query => exact exec_frame_query hc h
  | clear => exact exec_frame_clear hc h

/-! ## A step -/

/-- A predicate that does not look at the queue is kept by a step when the tick and every command keep it. -/
theorem step_keeps {P : State → Prop} (hqueue : ∀ s l, P s → P { s with pending := l }) (htick : ∀ s, P s → P s.tick)
    (hexec : ∀ c s t, P s → exec c s = .next t → P t) {s t : State} (hs : P s) (h : step s = .next t) : P t := by
  unfold step at h
  split at h
  · exact hexec _ _ _ (hqueue s _ hs) h
  · split at h
    · exact hexec _ _ _ hs h
    · cases h
      exact htick s hs

end Sys2Proof.Machine
end

section
/-! SUPPORT. The stack commands keep the stack sound: the checks admit only a sound entry (R26 to R41). -/

namespace Sys2Proof.Machine

/-- The counts an entry may have: 1..65535, or FOREVER with held 0..65535 (R27). -/
def Count.sound : Count → Prop
  | .finite n => 1 ≤ n ∧ n ≤ 65535
  | .forever h => h ≤ 65535

/-- An entry is sound when its angle goes with its kind and its count is sound. -/
theorem Entry.sound_iff (e : Entry) : e.sound ↔ (e.angle = none ↔ e.kind = .upright) ∧ e.count.sound := by
  unfold Entry.sound Count.sound
  cases e.count <;> rfl

/-- A count as sent, other than 0, is sound. -/
theorem Count.sound_of_half {count : Half} (h : count ≠ 0) : (Count.finite count.toNat).sound := by
  have hpos : count.toNat ≠ 0 := fun h0 => h (BitVec.eq_of_toNat_eq h0)
  have hlt := count.isLt
  exact ⟨by omega, by omega⟩

/-- The count settled for a push is sound. -/
theorem settleCount_sound {role : Role} {count : Half} {c : Count} (h : settleCount role count = some c) : c.sound := by
  unfold settleCount at h
  split at h
  · split at h <;> cases h
    exact Nat.zero_le _
  · cases h
    exact Count.sound_of_half ‹_›

/-- The count settled for a refresh is sound where the entry's was. -/
theorem refreshCount_sound {role : Role} {count : Half} {old c : Count} (hold : old.sound)
    (h : refreshCount role count old = some c) : c.sound := by
  unfold refreshCount at h
  split at h
  · split at h
    · split at h <;> cases h
      · exact hold
      · exact Nat.zero_le _
    · cases h
  · cases h
    exact Count.sound_of_half ‹_›

/-- A pushed entry has an angle exactly where its kind has one (R31). -/
theorem State.pushAngle_eq_none_iff (s : State) (k : OverrideKind) (angle : Half) :
    s.pushAngle k angle = none ↔ k = .upright := by
  cases k <;> simp [State.pushAngle]

/-- What a verdict puts on a sound stack leaves it sound. -/
def Verdict.sound (l : List Entry) : Verdict → Prop
  | .refuse _ => True
  | .refresh c => c.sound
  | .push e => e.sound ∧ e.pending = false ∧ l.length < 4 ∧ ∀ x ∈ l, x.tag ≠ e.tag

/-- The push checks admit only a sound entry with room, of a tag that the checks before found absent. -/
theorem State.judgePush_sound (s : State) (src : Addr) (role : Role) (tag : Byte) (k : OverrideKind) (angle count : Half)
    (habsent : ∀ x ∈ s.le.stack, x.tag ≠ tag) : (s.judgePush src role tag k angle count).sound s.le.stack := by
  unfold State.judgePush
  split
  · trivial
  next c hc =>
    split
    · trivial
    · split
      · trivial
      next hroom =>
        exact ⟨(Entry.sound_iff _).2 ⟨s.pushAngle_eq_none_iff k angle, settleCount_sound hc⟩, rfl,
          Nat.lt_of_not_le hroom, habsent⟩

/-- The checks of a request give a sound verdict. -/
theorem State.judge_sound {s : State} (hs : soundStack s.le.stack) (src : Addr) (role : Role) (tag kind : Byte)
    (angle count : Half) : (s.judge src role tag kind angle count).sound s.le.stack := by
  unfold State.judge
  split
  · trivial
  split
  · trivial
  split
  next e hfind =>
    split
    · trivial
    · split
      next hc =>
        obtain ⟨-, -, -, hall⟩ := hs
        exact refreshCount_sound ((Entry.sound_iff e).1 (hall e (List.mem_of_find?_eq_some hfind))).2 hc
      · trivial
  next hfind =>
    refine s.judgePush_sound src role tag _ angle count fun x hx => ?_
    simpa using List.find?_eq_none.1 hfind x hx

/-- Settling a sound verdict keeps the stack sound. -/
theorem State.soundStack_settleOverride {s : State} (hs : soundStack s.le.stack) (tag : Byte) {v : Verdict}
    (hv : v.sound s.le.stack) : soundStack (s.settleOverride tag v).le.stack := by
  cases v with
  | refuse r => exact hs
  | refresh c =>
    simp only [State.settleOverride, State.setRefusal_le, State.setStack_stack]
    exact soundStack_setCount tag c hs (by cases c <;> exact hv)
  | push e =>
    obtain ⟨he, hpending, hroom, habsent⟩ := hv
    simp only [State.settleOverride, State.setRefusal_le, State.setStack_stack]
    exact soundStack_push hs hroom habsent he hpending

/-- An internal push where there is room keeps the stack sound. -/
theorem State.soundStack_internal {s : State} (hs : soundStack s.le.stack) {tag : Byte} {k : OverrideKind}
    (hk : k ≠ .upright) (hroom : s.roomFor tag = true) : soundStack (s.internalEntry tag k :: s.le.stack) := by
  simp only [State.roomFor, Bool.and_eq_true, decide_eq_true_eq, Bool.not_eq_true', hasTag, List.any_eq_false,
    beq_iff_eq] at hroom
  obtain ⟨hlt, habsent⟩ := hroom
  refine soundStack_push hs hlt habsent ⟨?_, Nat.zero_le _⟩ rfl
  simp [State.internalEntry, hk]

/-- The stack commands keep the stack sound. -/
theorem soundStack_of_exec_le {c : Instr} {s t : State} (hc : takerOf c = .le) (hs : soundStack s.le.stack)
    (h : exec c s = .next t) : soundStack t.le.stack := by
  cases c <;> cases hc <;> cases h
  case periodExpiry =>
    split
    · rw [State.periodExpiry_eq]; exact soundStack_advanceTop hs
    · exact hs
  case overrideRequest src role tag kind angle count =>
    dsimp only
    split
    · rw [State.wakeIfDormant_eq]
      exact State.soundStack_settleOverride (s := s.taken _) hs tag (State.judge_sound hs src role tag kind angle count)
    · exact hs
  case releaseRequest src tag role =>
    dsimp only
    split
    · rw [State.wakeIfDormant_eq, State.setStack_eq]; exact soundStack_releaseTag tag hs
    · exact hs
  case autoLockDwellExpiry =>
    split
    · exact hs
    split
    · exact hs
    split
    next hroom => rw [State.setStack_stack]; exact State.soundStack_internal hs (by decide) hroom
    · exact hs
  case speedStatusChangeLe =>
    dsimp only
    split
    · rw [State.evalDwell_le]
      split
      · exact (congrArg soundStack (State.setStack_stack _ _)).mpr (soundStack_motionRelease hs)
      · exact hs
    · exact hs
  case nodeStateChangeLe old new =>
    dsimp only
    rw [State.evalDwell_le]
    split
    next hpush =>
      obtain ⟨-, -, -, hroom⟩ := hpush
      exact (congrArg soundStack (State.setStack_stack _ _)).mpr (State.soundStack_internal hs (by decide) hroom)
    · exact hs

/-- The empty stack is sound. -/
theorem soundStack_nil : soundStack [] := ⟨by simp, by simp, by simp, by simp⟩

/-- Only the stack commands and a reset touch the stack, and a reset empties it. -/
theorem soundStack_of_exec {c : Instr} {s t : State} (hs : soundStack s.le.stack) (h : exec c s = .next t) :
    soundStack t.le.stack := by
  have hreset : t = s ∨ ResetOf s t → soundStack t.le.stack := by
    rintro (rfl | ⟨pins, latches, lastHalt, rfl⟩)
    · exact hs
    · exact soundStack_nil
  have hf := exec_frame h
  cases hc : takerOf c <;> rw [hc] at hf
  case le => exact soundStack_of_exec_le hc hs h
  case reset => exact hreset hf
  case tx => exact hf.elim (fun e => by rw [e]; exact hs) fun e => hreset (.inr e)
  all_goals rw [show t = _ from hf]; exact hs

/-- Settles O57: the tick leaves the stack, and so does every command but the stack commands and a reset. -/
theorem stepKeepsStackSound : Obligations.StepKeepsStackSound := fun _ _ =>
  step_keeps (P := fun s => soundStack s.le.stack) (fun _ _ hs => hs) (fun _ hs => hs)
    fun _ _ _ => soundStack_of_exec

end Sys2Proof.Machine
end

section
/-! SUPPORT. The brake: each move keeps the driver, the demand and the timer as the brake state has them (R66 to R78). -/

namespace Sys2Proof.Machine

/-! ## The moves of the brake -/

/-- ENGAGING entered under an OFF demand. -/
theorem Bcu.toEngaging_sound {b : Bcu} (hd : b.demand = false) : b.toEngaging.sound := by
  unfold Bcu.toEngaging
  split <;> simp [Bcu.sound, hd, BrakeState.coilOn, BrakeState.wanted, BrakeState.limit]

/-- RELEASING entered under an ON demand. -/
theorem Bcu.toReleasing_sound {b : Bcu} (hd : b.demand = true) : b.toReleasing.sound := by
  unfold Bcu.toReleasing
  split <;> simp [Bcu.sound, hd, BrakeState.coilOn, BrakeState.wanted, BrakeState.limit]

/-- PRELOAD entered under an ON demand. -/
theorem Bcu.toPreload_sound {b : Bcu} (hd : b.demand = true) : b.toPreload.sound := by
  simp [Bcu.toPreload, Bcu.sound, hd, BrakeState.coilOn, BrakeState.wanted, BrakeState.limit]

/-- STUCK entered. -/
theorem Bcu.toStuck_sound (b : Bcu) : b.toStuck.sound := by simp [Bcu.toStuck, Bcu.sound, BrakeState.limit]

/-- Outside STUCK the demand is the one the state follows. -/
theorem Bcu.sound.demand_eq {b : Bcu} (h : b.sound) (hs : b.state ≠ .stuck) : b.demand = b.state.wanted := (h.2.1 hs).2

/-- A change of what soundness does not look at keeps it. -/
theorem Bcu.sound_of_eq {b c : Bcu} (h : b.sound) (hs : c.state = b.state) (hd : c.driver = b.driver)
    (hm : c.demand = b.demand) (ht : c.timer.map (fun q => q.1) = b.timer.map (fun q => q.1)) : c.sound := by
  unfold Bcu.sound at h ⊢
  rw [hs, hd, hm, ht]
  exact h

/-- What soundness says in each brake state. -/
theorem Bcu.sound_iff (b : Bcu) : b.sound ↔
    (if b.state = .stuck then b.driver = b.demand else b.driver = b.state.coilOn ∧ b.demand = b.state.wanted) ∧
      b.timer.map (fun q => q.1) = b.state.limit := by
  unfold Bcu.sound
  by_cases h : b.state = .stuck <;> simp [h]

/-- A demand that turns OFF keeps the brake sound (R71). -/
theorem Bcu.demandOff_sound {b : Bcu} (h : b.sound) : b.demandOff.sound := by
  obtain ⟨st, driver, sw, demand, timer, invalidRun, agreeRun, topCopy⟩ := b
  rw [Bcu.sound_iff] at h
  cases st
  case released | releasing | preload => exact Bcu.toEngaging_sound rfl
  case stuck => exact (Bcu.sound_iff _).2 (by simpa [Bcu.demandOff] using h.2)
  case engaging | engaged | heldOff =>
    obtain ⟨⟨hdriver, -⟩, htimer⟩ := h
    exact (Bcu.sound_iff _).2 ⟨⟨hdriver, rfl⟩, htimer⟩

/-- A demand that turns ON keeps the brake sound (R72). -/
theorem Bcu.demandOn_sound {b : Bcu} (h : b.sound) : b.demandOn.sound := by
  obtain ⟨st, driver, sw, demand, timer, invalidRun, agreeRun, topCopy⟩ := b
  rw [Bcu.sound_iff] at h
  cases st
  case engaged => exact Bcu.toPreload_sound rfl
  case engaging | heldOff => exact Bcu.toReleasing_sound rfl
  case stuck => exact (Bcu.sound_iff _).2 (by simpa [Bcu.demandOn] using h.2)
  case released | releasing | preload =>
    obtain ⟨⟨hdriver, -⟩, htimer⟩ := h
    exact (Bcu.sound_iff _).2 ⟨⟨hdriver, rfl⟩, htimer⟩

/-- A new switch keeps the brake sound (R73): each row of the table leads to a state of the same demand. -/
theorem Bcu.onSwitch_sound {b : Bcu} (h : b.sound) (new : Switch) : (b.onSwitch new).sound := by
  obtain ⟨st, driver, sw, demand, timer, invalidRun, agreeRun, topCopy⟩ := b
  have hdemand := h.demand_eq
  have hstored : ({ state := st, driver, switch := new, demand, timer, invalidRun, agreeRun, topCopy } : Bcu).sound := h
  rw [Bcu.sound_iff] at h
  unfold Bcu.onSwitch Bcu.switchMove
  dsimp only at hdemand h ⊢
  split
  case h_1 | h_2 => exact Bcu.toReleasing_sound (hdemand (by decide))
  case h_5 | h_6 | h_8 => exact Bcu.toEngaging_sound (hdemand (by decide))
  case h_3 | h_4 =>
    obtain ⟨⟨hdriver, hwanted⟩, -⟩ := h
    exact (Bcu.sound_iff _).2 ⟨⟨hdriver, hwanted⟩, rfl⟩
  case h_7 => exact (Bcu.sound_iff _).2 h
  case h_9 => exact hstored

/-- An evaluation of the demand keeps the brake sound (R70). -/
theorem State.evalDemand_sound {s : State} (h : s.bcu.sound) : s.evalDemand.bcu.sound := by
  unfold State.evalDemand
  split
  · exact h
  · split
    · exact Bcu.demandOn_sound h
    · exact Bcu.demandOff_sound h

/-- HELD_OFF looking at the partner flag keeps the brake sound (R76). -/
theorem State.lookHeldOff_sound {s : State} (h : s.bcu.sound) : s.lookHeldOff.bcu.sound := by
  unfold State.lookHeldOff
  split
  next hlook => exact Bcu.toEngaging_sound (by simpa [hlook.1, BrakeState.wanted] using h.demand_eq)
  · exact h

/-- A sweep notice keeps the brake sound (R76 to R78). -/
theorem State.bcuSweep_sound {s : State} (h : s.bcu.sound) : s.bcuSweep.bcu.sound := by
  have hmoved := State.evalDemand_sound h
  unfold State.bcuSweep
  dsimp only
  split
  next hs =>
    have hleft : ({ s.evalDemand.bcu with
        state := if s.evalDemand.bcu.demand then .released else .engaged, agreeRun := 0 } : Bcu).sound := by
      rw [Bcu.sound_iff] at hmoved ⊢
      cases hd : s.evalDemand.bcu.demand <;> simpa [hs, hd, BrakeState.coilOn, BrakeState.wanted, BrakeState.limit] using hmoved
    unfold State.countAgree
    split
    · split
      · exact hleft
      · exact Bcu.sound_of_eq hmoved rfl rfl rfl rfl
    · exact Bcu.sound_of_eq hmoved rfl rfl rfl rfl
  next =>
    unfold State.countInvalid
    split
    · split
      · exact Bcu.toStuck_sound _
      · exact State.lookHeldOff_sound (Bcu.sound_of_eq hmoved rfl rfl rfl rfl)
    · exact State.lookHeldOff_sound (Bcu.sound_of_eq hmoved rfl rfl rfl rfl)

/-- A T_brake expiry in ENGAGING keeps the brake sound (R74). -/
theorem State.engagingExpiry_sound {s : State} (h : s.bcu.sound) (hs : s.bcu.state = .engaging) :
    s.engagingExpiry.bcu.sound := by
  have hdemand : s.bcu.demand = false := by simpa [hs, BrakeState.wanted] using h.demand_eq
  have hwait : s.bcu.waitAgain.sound := by
    rw [Bcu.sound_iff] at h ⊢
    simpa [hs, Bcu.waitAgain, BrakeState.limit] using h.1
  unfold State.engagingExpiry
  split
  case h_1 =>
    rw [Bcu.sound_iff, hs] at h
    exact (Bcu.sound_iff _).2 ⟨h.1, rfl⟩
  case h_2 | h_4 => exact Bcu.toStuck_sound _
  case h_3 | h_5 => exact hwait
  case h_6 => exact Bcu.toEngaging_sound hdemand

/-- A T_brake expiry in RELEASING keeps the brake sound (R75). -/
theorem State.releasingExpiry_sound {s : State} (h : s.bcu.sound) (hs : s.bcu.state = .releasing) :
    s.releasingExpiry.bcu.sound := by
  unfold State.releasingExpiry
  split
  case h_1 | h_2 => exact Bcu.toStuck_sound _
  case h_3 =>
    rw [Bcu.sound_iff] at h
    exact (Bcu.sound_iff _).2 (by simpa [hs, Bcu.waitAgain, BrakeState.limit] using h.1)
  case h_4 => exact Bcu.toReleasing_sound (by simpa [hs, BrakeState.wanted] using h.demand_eq)

/-! ## The commands and the step -/

/-- The brake's commands keep the brake sound. -/
theorem soundBcu_of_exec_bcu {c : Instr} {s t : State} (hc : takerOf c = .bcu) (hs : s.bcu.sound)
    (h : exec c s = .next t) : t.bcu.sound := by
  cases c <;> cases hc <;> cases h
  case switchChange =>
    dsimp only
    split
    · exact Bcu.onSwitch_sound hs _
    · exact hs
  case tBrakeExpiry =>
    split
    · split
      · exact State.engagingExpiry_sound hs ‹_›
      · exact State.releasingExpiry_sound hs ‹_›
      · exact hs
    · exact hs
  case tPreloadExpiry =>
    split
    next hexp =>
      simp only [Bool.and_eq_true, beq_iff_eq] at hexp
      exact Bcu.toReleasing_sound (by simpa [hexp.2, BrakeState.wanted] using hs.demand_eq)
    · exact hs
  case sweepNoticeBcu =>
    dsimp only
    split
    · exact State.bcuSweep_sound (s := s.taken _) hs
    · exact hs
  case topChangeNoticeBcu =>
    dsimp only
    split
    · exact State.evalDemand_sound (Bcu.sound_of_eq hs rfl rfl rfl rfl)
    · exact hs
  case speedStatusChangeBcu | nodeStateChangeBcu =>
    dsimp only
    split
    · exact State.evalDemand_sound (s := s.taken _) hs
    · exact hs

/-- A reset leaves the brake engaged, or engaging with its timer started (R79). -/
theorem bcuAfterReset_sound (sw : Switch) : (bcuAfterReset sw).sound := by
  cases sw <;> exact (Bcu.sound_iff _).2 (by decide)

/-- Only the brake's commands and a reset touch the brake. -/
theorem soundBcu_of_exec {c : Instr} {s t : State} (hs : s.bcu.sound) (h : exec c s = .next t) : t.bcu.sound := by
  have hreset : t = s ∨ ResetOf s t → t.bcu.sound := by
    rintro (rfl | ⟨pins, latches, lastHalt, rfl⟩)
    · exact hs
    · exact bcuAfterReset_sound _
  have hf := exec_frame h
  cases hc : takerOf c <;> rw [hc] at hf
  case bcu => exact soundBcu_of_exec_bcu hc hs h
  case reset => exact hreset hf
  case tx => exact hf.elim (fun e => by rw [e]; exact hs) fun e => hreset (.inr e)
  all_goals rw [show t = _ from hf]; exact hs

/-- Settles O58: the tick runs the timer on toward the same limit, and of the commands only the brake's and a reset touch the
brake. -/
theorem stepKeepsBrakeSound : Obligations.StepKeepsBrakeSound := by
  refine fun _ _ => step_keeps (P := fun s => s.bcu.sound) (fun _ _ hs => hs) (fun s hs => ?_)
    fun _ _ _ => soundBcu_of_exec
  refine Bcu.sound_of_eq hs rfl rfl rfl ?_
  simp only [State.tick]
  split
  · rw [Option.map_map]; rfl
  · rfl

end Sys2Proof.Machine
end

section
/-! SUPPORT. The node state controller: each of its operations keeps its flags and counts, and the rejoin timer, as R140, R142,
R144, R145, R149 and R151 have them. -/

namespace Sys2Proof.Machine

/-! ## The NSC's flags and counts -/

/-- The event conditions stand as their latches, FLT as the node state, and the three counts within their ranges. -/
def Nsc.sound (n : Nsc) : Prop :=
  (∀ c, isEvent c = true → n.present.has c = n.latches.has c) ∧ n.flt = n.node.faulted ∧
    n.joinCount ≤ 24 ∧ n.clearRun ≤ 9 ∧ n.sendCount ≤ 49

/-- What the NSC's soundness and the LE's two counts say of a state. -/
theorem State.soundNode_iff (s : State) : s.soundLatches ∧ s.soundFault ∧ s.soundCounts ↔
    s.nsc.sound ∧ s.le.overCount ≤ 3 ∧ s.le.mismatch ≤ 50 := by
  unfold State.soundLatches State.soundFault State.soundCounts Nsc.sound
  tauto

/-- A change of the node state keeps the NSC sound. -/
theorem Nsc.enter_sound {n : Nsc} (h : n.sound) (new : NodeState) (lean : Option Int) : (n.enter new lean).sound := by
  obtain ⟨hevent, -, hjoin, hclear, hsend⟩ := h
  refine ⟨hevent, rfl, ?_, ?_, ?_⟩
  · simp only [Nsc.enter_joinCount]; split <;> omega
  · simp only [Nsc.enter_clearRun]; split <;> omega
  · simp only [Nsc.enter_sendCount, Config.dormantSend]; split <;> omega

/-- A condition put into the NSC keeps it sound: an event condition that becomes present sets its latch, and none is cleared. -/
theorem Nsc.putCondition_sound {n : Nsc} (h : n.sound) {c : Condition} {b : Bool} (hb : b = true ∨ isEvent c = false) :
    (n.putCondition c b).sound := by
  refine ⟨fun d hd => ?_, h.2⟩
  rw [Nsc.putCondition_present_has, Nsc.putCondition_latches_has, ← h.1 d hd]
  by_cases hdc : d = c
  · subst hdc
    have hlatched : isLatched d = true := by revert hd; cases d <;> decide
    rcases hb with rfl | hb
    · simp [hlatched]
    · exact absurd hd (by simp [hb])
  · simp [hdc]

/-- Entering a node state keeps the NSC sound. -/
theorem State.enterNode_sound {s : State} (h : s.nsc.sound) (n : NodeState) : (s.enterNode n).nsc.sound :=
  Nsc.enter_sound h n _

/-- What a condition newly present does keeps the NSC sound. -/
theorem State.onPresent_sound {s : State} (h : s.nsc.sound) (c : Condition) : (s.onPresent c).nsc.sound := by
  unfold State.onPresent State.leaveRunning
  repeat' split
  all_goals first
    | exact h
    | exact State.enterNode_sound h _
    | exact ⟨h.1, h.2.1, h.2.2.1, Nat.zero_le _, h.2.2.2.2⟩

/-- A condition found present or absent keeps the NSC sound. -/
theorem State.report_sound {s : State} (h : s.nsc.sound) (c : Condition) (b : Bool) : (s.report c b).nsc.sound := by
  unfold State.report
  split
  · exact h
  · split
    · exact State.onPresent_sound (s := s.setNsc _) (Nsc.putCondition_sound h (.inl rfl)) c
    · split
      · exact h
      next hstays =>
        refine Nsc.putCondition_sound h (.inr ?_)
        simp only [staysPresent, Bool.or_eq_true, not_or, Bool.not_eq_true] at hstays
        exact hstays.1

/-- A wake test keeps the NSC sound. -/
theorem State.wakeWhen_sound {s : State} (h : s.nsc.sound) (cause : Bool) : (s.wakeWhen cause).nsc.sound := by
  rw [State.wakeWhen_eq]
  split
  · exact State.enterNode_sound h _
  · exact h

/-- The dormant dwell evaluated keeps the NSC sound. -/
theorem State.evalDormant_sound {s : State} (h : s.nsc.sound) (n : NodeState) (v : Nat) (st : SpeedStatus) :
    (s.evalDormant n v st).nsc.sound := by
  rw [State.evalDormant_eq]; exact h

/-- The rejoin timer evaluated keeps the NSC sound. -/
theorem State.evalRejoin_nsc_sound {s : State} (h : s.nsc.sound) : s.evalRejoin.nsc.sound := h

/-- The work of a period notice keeps the NSC sound: a count that would reach its limit makes a passage instead. -/
theorem State.countPeriod_sound {s : State} (h : s.nsc.sound) : s.countPeriod.nsc.sound := by
  have hjoin : ∀ n, n ≤ 24 → ({ s.nsc with joinCount := n } : Nsc).sound := fun n hn => ⟨h.1, h.2.1, hn, h.2.2.2⟩
  have hclear : ∀ n, n ≤ 9 → ({ s.nsc with clearRun := n } : Nsc).sound :=
    fun n hn => ⟨h.1, h.2.1, h.2.2.1, hn, h.2.2.2.2⟩
  unfold State.countPeriod Config.joinRun Config.clearRun
  repeat' split
  all_goals first
    | exact h
    | exact State.enterNode_sound h _
    | exact hjoin _ (by omega)
    | exact hclear _ (by omega)

/-- The conditions taken from their sources at the passage to LISTEN keep the NSC sound. -/
theorem State.takeSources_sound {s : State} (h : s.nsc.sound) : s.takeSources.nsc.sound := by
  refine ⟨fun c hc => ?_, h.2⟩
  simp only [State.takeSources, State.setNsc, CondSet.has_ofPred]
  cases c <;> simp_all [isEvent, isLatched, State.sourcePresent]

/-- A CLEAR of the latches keeps the NSC sound: an event condition leaves the present set with its latch. -/
theorem State.clearLatches_sound {s : State} (h : s.nsc.sound) : s.clearLatches.nsc.sound := by
  refine ⟨fun c hc => ?_, h.2⟩
  simp only [State.clearLatches, State.evalRejoin, State.setNsc, CondSet.has_ofPred]
  cases c <;> simp_all [isEvent, State.causePresent]

/-- A reply leaves the NSC. -/
@[simp] theorem State.replyClear_nsc (s : State) (action result : Byte) : (s.replyClear action result).nsc = s.nsc := by
  rw [State.replyClear, State.reply_eq]

/-- The NSC's commands keep it sound. -/
theorem soundNsc_of_exec_nsc {c : Instr} {s t : State} (hc : takerOf c = .nsc) (hs : s.nsc.sound)
    (h : exec c s = .next t) : t.nsc.sound := by
  cases c <;> cases hc <;> cases h
  case conditionReport c present =>
    dsimp only
    refine State.evalRejoin_nsc_sound (State.evalDormant_sound (State.report_sound ?_ _ _) _ _ _)
    split
    · rw [State.fill_eq]; exact hs
    · exact hs
  case haltHandoff =>
    dsimp only
    split
    · refine State.evalRejoin_nsc_sound (State.onPresent_sound (s := (s.taken _).setNsc _) ?_ _)
      exact (Nsc.putCondition_sound hs (.inl rfl))
    · exact hs
  case frameNotice => exact State.wakeWhen_sound (s := s.taken _) hs _
  case wakeCauseReport => exact State.wakeWhen_sound (s := s.taken _) hs _
  case sweepNoticeNsc =>
    dsimp only
    split
    · exact State.evalRejoin_nsc_sound
        (State.wakeWhen_sound (State.report_sound (State.report_sound (s := s.taken _) hs _ _) _ _) _)
    · exact hs
  case speedStatusChangeNsc =>
    dsimp only
    split
    · refine State.evalRejoin_nsc_sound (State.evalDormant_sound ?_ _ _ _)
      split
      · refine State.enterNode_sound (State.report_sound (State.report_sound ?_ _ _) _ _) _
        exact hs
      · refine State.report_sound (State.report_sound ?_ _ _) _ _
        exact hs
    · exact hs
  case viewChange =>
    dsimp only
    split
    · exact State.evalRejoin_nsc_sound (State.report_sound (s := s.taken _) hs _ _)
    · exact hs
  case topChangeNoticeNsc =>
    dsimp only
    split
    · refine State.evalDormant_sound (State.wakeWhen_sound ?_ _) _ _ _
      exact hs
    · exact hs
  case bfltChange =>
    dsimp only
    split
    · refine State.evalRejoin_nsc_sound (State.report_sound ?_ _ _)
      exact hs
    · exact hs
  case periodNotice =>
    dsimp only
    split
    · refine State.evalDormant_sound (State.countPeriod_sound ?_) _ _ _
      exact hs
    · exact hs
  case rejoinTimerExpiry =>
    split
    · exact State.evalRejoin_nsc_sound (State.enterNode_sound hs _)
    · exact hs
  case dormantDwellExpiry =>
    split
    · split
      · exact State.enterNode_sound hs _
      · exact hs
    · exact hs

/-- A reset leaves the NSC sound: the event conditions are present as their kept latches are. -/
theorem ResetOf.nsc_sound {s t : State} (h : ResetOf s t) : t.nsc.sound := by
  obtain ⟨pins, latches, lastHalt, rfl⟩ := h
  refine ⟨fun c hc => ?_, rfl, Nat.zero_le _, Nat.zero_le _, Nat.zero_le _⟩
  simp [resetNode, keptPresent, hc]

/-- The admission of a fill keeps the NSC sound. -/
theorem State.contribStep_sound {s : State} (h : s.nsc.sound) (c : Contrib) : (s.contribStep c).nsc.sound := by
  have hsend : ∀ n, n ≤ 49 → ({ s.nsc with sendCount := n } : Nsc).sound :=
    fun n hn => ⟨h.1, h.2.1, h.2.2.1, h.2.2.2.1, hn⟩
  have hadmit : s.admitFill.1.nsc.sound := by
    unfold State.admitFill Config.dormantSend
    repeat' split
    · exact hsend _ (by omega)
    · exact hsend _ (by omega)
    · exact h
  unfold State.contribStep State.fillContrib
  dsimp only
  split
  · rw [State.fill_eq]; exact hadmit
  · exact hadmit

/-- Every command keeps the NSC sound. -/
theorem soundNsc_of_exec {c : Instr} {s t : State} (hs : s.nsc.sound) (h : exec c s = .next t) : t.nsc.sound := by
  have hf := exec_frame h
  cases hc : takerOf c <;> rw [hc] at hf
  case reset => exact hf.elim (fun e => by rw [e]; exact hs) ResetOf.nsc_sound
  case tx => exact hf.elim (fun e => by rw [e]; exact hs) ResetOf.nsc_sound
  case nsc => exact soundNsc_of_exec_nsc hc hs h
  case loader =>
    cases c <;> cases hc
    cases h
    split
    · split
      · exact State.enterNode_sound (State.takeSources_sound (s := (s.keepImage _ _).loadUnits _) hs) _
      · exact State.report_sound (s := s.keepImage _ _) hs _ _
    · exact hs
  case tsu =>
    cases c <;> cases hc <;> cases h
    case newTargetArrivalTsu =>
      dsimp only
      split
      · refine State.contribStep_sound ?_ _
        exact hs
      · exact hs
    case nodeStateChangeTsu => dsimp only; split <;> exact hs
  case slu =>
    cases c <;> cases hc <;> cases h
    case newTargetArrivalSlu =>
      dsimp only
      split
      · refine State.contribStep_sound ?_ _
        exact hs
      · exact hs
    case nodeStateChangeSlu => dsimp only; split <;> exact hs
    case sweepNoticeSlu =>
      dsimp only
      split
      · rw [State.riderStep_eq]; exact hs
      · exact hs
  case clear =>
    cases c <;> cases hc <;> cases h
    case clearLatches =>
      dsimp only
      split
      · rw [State.replyClear_nsc]
        refine State.clearLatches_sound ?_
        exact hs
      · exact hs
    case clearRestart =>
      dsimp only
      split
      · split <;> simpa using hs
      · exact hs
    case clearUnknownAction =>
      dsimp only
      split
      · simpa using hs
      · exact hs
  all_goals rw [show t = _ from hf]; exact hs

end Sys2Proof.Machine
end

section
/-! SUPPORT. The LE's counts, the drive output, the rejoin timer and the sweep through every command (R1, R26, R56 to R58, R92,
R99, R102, R149). -/

namespace Sys2Proof.Machine

/-! ## The LE's two counts -/

/-- The over-lean counter is 0..3 and the mismatch counter 0..50. -/
def Le.soundCounts (l : Le) : Prop := l.overCount ≤ 3 ∧ l.mismatch ≤ 50

/-- A change of the stack leaves the counts. -/
theorem State.setStack_counts {s : State} (h : s.le.soundCounts) (new : List Entry) :
    (s.setStack new).le.soundCounts := by
  rw [State.setStack_eq]; exact h

/-- Settling a request leaves the counts. -/
theorem State.settleOverride_counts {s : State} (h : s.le.soundCounts) (tag : Byte) (v : Verdict) :
    (s.settleOverride tag v).le.soundCounts := by
  cases v with
  | refuse r => exact h
  | refresh c => exact State.setStack_counts h _
  | push e => exact State.setStack_counts h _

/-- A period expiry keeps the counts in their ranges. -/
theorem State.periodExpiry_counts {s : State} (h : s.le.soundCounts) : s.periodExpiry.le.soundCounts := by
  unfold State.periodExpiry
  dsimp only
  rw [State.compareStacks_eq]
  refine ⟨?_, ?_⟩
  · refine State.overLean_overCount _ ?_
    exact (State.setStack_counts (s := s.hand _) h _).1
  · simp only [State.hand_le]
    split <;> omega

/-- The LE's commands keep the counts in their ranges. -/
theorem soundCounts_of_exec_le {c : Instr} {s t : State} (hc : takerOf c = .le) (hs : s.le.soundCounts)
    (h : exec c s = .next t) : t.le.soundCounts := by
  cases c <;> cases hc <;> cases h
  case periodExpiry =>
    split
    · exact State.periodExpiry_counts hs
    · exact hs
  case overrideRequest =>
    dsimp only
    split
    · rw [State.wakeIfDormant_eq]
      exact State.settleOverride_counts (s := s.taken _) hs _ _
    · exact hs
  case releaseRequest =>
    dsimp only
    split
    · rw [State.wakeIfDormant_eq]
      exact State.setStack_counts (s := s.taken _) hs _
    · exact hs
  case autoLockDwellExpiry =>
    repeat' split
    · exact hs
    · exact hs
    · exact State.setStack_counts hs _
    · exact hs
  case speedStatusChangeLe =>
    dsimp only
    split
    · split
      · refine State.setStack_counts ?_ _
        exact hs
      · exact hs
    · exact hs
  case nodeStateChangeLe =>
    dsimp only
    split
    · exact State.setStack_counts (s := s.taken _) hs _
    · exact hs

/-- Every command keeps the LE's counts in their ranges. -/
theorem soundCounts_of_exec {c : Instr} {s t : State} (hs : s.le.soundCounts) (h : exec c s = .next t) :
    t.le.soundCounts := by
  have hreset : ResetOf s t → t.le.soundCounts := by
    rintro ⟨pins, latches, lastHalt, rfl⟩
    exact ⟨Nat.zero_le _, Nat.zero_le _⟩
  have hf := exec_frame h
  cases hc : takerOf c <;> rw [hc] at hf
  case reset => exact hf.elim (fun e => by rw [e]; exact hs) hreset
  case tx => exact hf.elim (fun e => by rw [e]; exact hs) hreset
  case le => exact soundCounts_of_exec_le hc hs h
  all_goals rw [show t = _ from hf]; exact hs

/-! ## The drive output -/

/-- The duty of an output within the full scale lies in 100..900 thousandths. -/
theorem dutyOf_range {x : Int} {full : Nat} (h : x.natAbs ≤ full) : 100 ≤ dutyOf x full ∧ dutyOf x full ≤ 900 := by
  have hq : ((400 * x).tdiv full).natAbs ≤ 400 := by
    rw [Int.natAbs_tdiv]
    refine Nat.div_le_of_le_mul ?_
    rw [Int.natAbs_mul, Int.natAbs_natCast, Nat.mul_comm]
    exact Nat.mul_le_mul h (Nat.le_refl _)
  unfold dutyOf
  omega

/-- The drive output of an arrival whose output is within the full scale. -/
theorem State.driveOf_sound (s : State) {x : Int} {full : Nat} (h : x.natAbs ≤ full) :
    ((s.driveOf (dutyOf x full)).dren = (s.driveOf (dutyOf x full)).duty.isSome) ∧
      ∀ d ∈ (s.driveOf (dutyOf x full)).duty, 100 ≤ d ∧ d ≤ 900 := by
  have hr := dutyOf_range h
  unfold State.driveOf
  split <;> simp [hr]

/-- A share of the torque that the release factor leaves is no greater. -/
theorem release_natAbs_le (x : Int) {f : Nat} (hf : f ≤ 1000) : ((x * f).tdiv 1000).natAbs ≤ x.natAbs := by
  rw [Int.natAbs_tdiv, Int.natAbs_mul, Int.natAbs_natCast]
  exact Nat.div_le_of_le_mul (by rw [Nat.mul_comm]; exact Nat.mul_le_mul hf (Nat.le_refl _))

/-- The release factor stays within 1000. -/
theorem factorAfter_le (p : Nat) (b : BrakeState) {f : Nat} (h : f ≤ 1000) : factorAfter p b f ≤ 1000 := by
  unfold factorAfter
  split <;> omega

/-- The own capability is at most 100. -/
theorem State.capability_le (s : State) : s.capability ≤ 100 := by
  have hjoin : s.joinCap ≤ 100 := by unfold State.joinCap; split <;> omega
  unfold State.capability
  split <;> omega

/-- The share limit of a capability within 100 is within the rated torque. -/
theorem shareLimit_le {w : Nat} (hw : w ≤ 100) (tRated : Nat) (d : Bool) : shareLimit w tRated d ≤ tRated := by
  have hfull : w * tRated / 100 ≤ tRated := Nat.div_le_of_le_mul (Nat.mul_le_mul hw (Nat.le_refl _))
  unfold shareLimit
  split <;> omega

/-- The output torque of an arrival is within the rated torque, and its release factor within 1000. -/
theorem State.tsuStep_range {s : State} (h : s.tsu.factor ≤ 1000) (r : TargetRecord) :
    (s.tsuStep r).1.tauO.natAbs ≤ s.prm.tRated ∧ (s.tsuStep r).1.factor ≤ 1000 := by
  have hfactor := factorAfter_le s.prm.p s.bcu.state h
  refine ⟨?_, hfactor⟩
  exact (release_natAbs_le _ hfactor).trans ((clampMag_natAbs _ _).trans (shareLimit_le s.capability_le _ _))

/-- The steer torque of an arrival is within its clamp. -/
theorem State.sluStep_range (s : State) (r : TargetRecord) : (s.sluStep r).1.tauS.natAbs ≤ s.prm.tauSMax := by
  simp only [State.sluStep]
  split
  · simp
  · exact clampMag_natAbs _ _

/-- A drive output as the rules have it. -/
def Drive.sound (d : Drive) : Prop := d.dren = d.duty.isSome ∧ ∀ x ∈ d.duty, 100 ≤ x ∧ x ≤ 900

/-- What soundness says of the drive and the release factor. -/
theorem State.soundDrive_iff (s : State) : s.soundDrive ↔ s.drive.sound ∧ s.tsu.factor ≤ 1000 := by
  unfold State.soundDrive Drive.sound
  tauto

/-- Node-state changes leave the drive as it was or low. -/
theorem driveChanges_sound {d : Drive} (h : d.sound) (l : List (NodeState × NodeState)) :
    (l.foldl (fun d q => driveChange q.1 q.2 d) d).sound := by
  induction l generalizing d with
  | nil => exact h
  | cons q l ih =>
    refine ih ?_
    dsimp only [driveChange]
    split
    · simp [Drive.sound, Drive.low]
    · exact h

/-- Every command keeps the drive output sound. -/
theorem soundDrive_of_exec {c : Instr} {s t : State} (hs : s.soundDrive) (h : exec c s = .next t) : t.soundDrive := by
  have hreset : ResetOf s t → t.soundDrive := by
    rintro ⟨pins, latches, lastHalt, rfl⟩
    exact ⟨rfl, by simp [resetNode, State.reset], Nat.zero_le _⟩
  have hf := exec_frame h
  cases hc : takerOf c <;> rw [hc] at hf
  case reset => exact hf.elim (fun e => by rw [e]; exact hs) hreset
  case tx => exact hf.elim (fun e => by rw [e]; exact hs) hreset
  case tsu =>
    rw [State.soundDrive_iff] at hs ⊢
    cases c <;> cases hc <;> cases h
    case newTargetArrivalTsu r =>
      dsimp only
      split
      · rw [State.tsuArrival_eq]
        obtain ⟨htorque, hfactor⟩ := State.tsuStep_range (s := (s.taken (.newTargetArrivalTsu r)).takeTsuChanges) hs.2 r
        exact ⟨State.driveOf_sound _ htorque, hfactor⟩
      · exact hs
    case nodeStateChangeTsu old new =>
      dsimp only
      split
      · exact ⟨driveChanges_sound hs.1 [(old, new)], hs.2⟩
      · exact hs
  case slu =>
    rw [State.soundDrive_iff] at hs ⊢
    cases c <;> cases hc <;> cases h
    case newTargetArrivalSlu r =>
      dsimp only
      split
      · rw [State.sluArrival_eq]
        exact ⟨State.driveOf_sound _ (State.sluStep_range _ r), hs.2⟩
      · exact hs
    case nodeStateChangeSlu old new =>
      dsimp only
      split
      · exact ⟨driveChanges_sound hs.1 [(old, new)], hs.2⟩
      · exact hs
    case sweepNoticeSlu =>
      dsimp only
      split
      · rw [State.riderStep_eq]; exact hs
      · exact hs
  all_goals rw [show t = _ from hf]; exact hs

/-! ## The rejoin timer -/

/-- What the rejoin timer's soundness does not look at may change. -/
theorem State.soundRejoin_of_eq {s t : State} (h : s.soundRejoin) (hnode : t.nsc.node = s.nsc.node)
    (hpresent : t.nsc.present = s.nsc.present) (hlatches : t.nsc.latches = s.nsc.latches)
    (hrejoin : t.nsc.rejoin.isSome = s.nsc.rejoin.isSome) : t.soundRejoin := by
  unfold State.soundRejoin at h ⊢
  rw [hnode, hpresent, hlatches, hrejoin]
  exact h

/-- A passage to a state that is neither FREE nor CLAMPED stops the rejoin timer. -/
theorem State.enterNode_soundRejoin (s : State) {n : NodeState} (hfree : n ≠ .free) (hclamped : n ≠ .clamped) :
    (s.enterNode n).soundRejoin := by
  simp [State.soundRejoin, hfree, hclamped]

/-- The dormant dwell evaluated leaves the rejoin timer. -/
theorem State.evalDormant_soundRejoin {s : State} (h : s.soundRejoin) (n : NodeState) (v : Nat) (st : SpeedStatus) :
    (s.evalDormant n v st).soundRejoin := by
  rw [State.evalDormant_eq]; exact h

/-- A wake test leaves the rejoin timer, or stops it on the way to ACTIVE. -/
theorem State.wakeWhen_soundRejoin {s : State} (h : s.soundRejoin) (cause : Bool) : (s.wakeWhen cause).soundRejoin := by
  rw [State.wakeWhen_eq]
  split
  · exact State.enterNode_soundRejoin s (by decide) (by decide)
  · exact h

/-- The work of a period notice leaves the rejoin timer, or stops it on the way to a running state. -/
theorem State.countPeriod_soundRejoin {s : State} (h : s.soundRejoin) : s.countPeriod.soundRejoin := by
  unfold State.countPeriod
  repeat' split
  all_goals first
    | exact h
    | exact State.enterNode_soundRejoin s (by decide) (by decide)

/-- The NSC's commands keep the rejoin timer: most end with its evaluation, and the others make no passage to FREE or CLAMPED and
change no condition. -/
theorem soundRejoin_of_exec_nsc {c : Instr} {s t : State} (hc : takerOf c = .nsc) (hs : s.soundRejoin)
    (h : exec c s = .next t) : t.soundRejoin := by
  cases c <;> cases hc <;> cases h
  case conditionReport => exact State.evalRejoin_sound _
  case haltHandoff | sweepNoticeNsc | speedStatusChangeNsc | viewChange | bfltChange =>
    dsimp only
    split
    · exact State.evalRejoin_sound _
    · exact hs
  case rejoinTimerExpiry =>
    split
    · exact State.evalRejoin_sound _
    · exact hs
  case frameNotice | wakeCauseReport =>
    refine State.wakeWhen_soundRejoin ?_ _
    exact hs
  case topChangeNoticeNsc =>
    dsimp only
    split
    · refine State.evalDormant_soundRejoin (State.wakeWhen_soundRejoin ?_ _) _ _ _
      exact hs
    · exact hs
  case periodNotice =>
    dsimp only
    split
    · refine State.evalDormant_soundRejoin (State.countPeriod_soundRejoin ?_) _ _ _
      exact hs
    · exact hs
  case dormantDwellExpiry =>
    split
    · split
      · exact State.enterNode_soundRejoin s (by decide) (by decide)
      · exact hs
    · exact hs

/-- A bad image takes the node to HALTED, where the rejoin timer is stopped. -/
theorem State.imageRefused_soundRejoin {s : State} (h : s.soundRejoin) (hstart : s.nsc.node = .start) (im : Image) :
    (s.imageRefused im).soundRejoin := by
  unfold State.imageRefused State.report
  split
  · exact h
  · simp only [if_true, State.onPresent, State.setNsc_nsc, Nsc.putCondition, State.keepImage_nsc, hstart]
    exact State.enterNode_soundRejoin _ (by decide) (by decide)

/-- Every command keeps the rejoin timer. -/
theorem soundRejoin_of_exec {c : Instr} {s t : State} (hs : s.soundRejoin) (h : exec c s = .next t) : t.soundRejoin := by
  have hreset : ResetOf s t → t.soundRejoin := by
    rintro ⟨pins, latches, lastHalt, rfl⟩
    simp [State.soundRejoin, resetNode, Nsc.reset]
  have hf := exec_frame h
  cases hc : takerOf c <;> rw [hc] at hf
  case reset => exact hf.elim (fun e => by rw [e]; exact hs) hreset
  case tx => exact hf.elim (fun e => by rw [e]; exact hs) hreset
  case nsc => exact soundRejoin_of_exec_nsc hc hs h
  case loader =>
    cases c <;> cases hc
    cases h
    split
    next hstart =>
      split
      · exact State.enterNode_soundRejoin _ (by decide) (by decide)
      · exact State.imageRefused_soundRejoin hs hstart.1 _
    · exact hs
  case clear =>
    cases c <;> cases hc <;> cases h
    case clearLatches =>
      dsimp only
      split
      · rw [State.replyClear, State.reply_eq]
        exact State.evalRejoin_sound _
      · exact hs
    case clearRestart =>
      dsimp only
      split
      · split <;> (rw [State.replyClear, State.reply_eq]; exact hs)
      · exact hs
    case clearUnknownAction =>
      dsimp only
      split
      · rw [State.replyClear, State.reply_eq]; exact hs
      · exact hs
  all_goals rw [show t = _ from hf]; exact hs

/-! ## The sweep -/

/-- The end of a transaction keeps the sweep sound. -/
theorem State.endTransaction_sound {s : State} (h : s.mu.sound) (rd : Reading) : (s.endTransaction rd).mu.sound := by
  obtain ⟨hbuffer, hready, hedge⟩ := h
  unfold State.endTransaction
  split
  · exact ⟨hbuffer, hready, hedge⟩
  next hsweep => exact ⟨rfl, rfl, hedge⟩
  next hsweep =>
    rw [hsweep] at hbuffer
    exact ⟨by simpa [Sweep.readings] using hbuffer, rfl, hedge⟩
  next hsweep =>
    split
    · refine ⟨rfl, rfl, ?_⟩
      simp only [State.completeSweep, State.hand_mu, Mu.afterWheel, Mu.wheel]
      repeat' split
      all_goals simp only
      all_goals omega
    · exact ⟨rfl, rfl, hedge⟩

/-- An edge keeps the sweep sound. -/
theorem Mu.edge_sound {m : Mu} (h : m.sound) (now : Stamp) : (m.edge now).sound := by
  obtain ⟨hbuffer, hready, hedge⟩ := h
  unfold Mu.edge
  repeat' split
  · exact ⟨hbuffer, hready, by simp⟩
  · exact ⟨hbuffer, hready, hedge⟩
  · exact ⟨hbuffer, hready, Nat.min_le_right _ _⟩

/-- A sweep expiry keeps the sweep sound. -/
theorem Mu.sweepExpiry_sound {m : Mu} (h : m.sound) (node : NodeState) : (m.sweepExpiry node).sound := by
  have hdue : ∀ k : Mu, k.sound → k.dueSweep.sound := by
    intro k hk
    unfold Mu.dueSweep
    split
    · exact ⟨rfl, rfl, hk.2.2⟩
    · exact hk
  unfold Mu.sweepExpiry
  dsimp only
  repeat' split
  · exact h
  · exact hdue _ h
  · exact hdue _ h

/-- Every command keeps the sweep sound. -/
theorem soundMu_of_exec {c : Instr} {s t : State} (hs : s.mu.sound) (h : exec c s = .next t) : t.mu.sound := by
  have hreset : ResetOf s t → t.mu.sound := by
    rintro ⟨pins, latches, lastHalt, rfl⟩
    exact ⟨rfl, rfl, by simp [resetNode, State.reset, Mu.reset]⟩
  have hf := exec_frame h
  cases hc : takerOf c <;> rw [hc] at hf
  case reset => exact hf.elim (fun e => by rw [e]; exact hs) hreset
  case tx => exact hf.elim (fun e => by rw [e]; exact hs) hreset
  case mu =>
    cases c <;> cases hc <;> cases h
    case sweepTimerExpiry =>
      split
      · exact Mu.sweepExpiry_sound hs _
      · exact hs
    case readyEvent =>
      split
      · exact State.endTransaction_sound hs _
      · exact State.endTransaction_sound hs _
      · exact hs
    case readyTimeout =>
      split
      · split
        · exact State.endTransaction_sound hs _
        · exact State.endTransaction_sound hs _
        · exact hs
      · exact hs
    case conversionComplete =>
      split
      · exact State.endTransaction_sound hs _
      · exact hs
    case wheelEdge =>
      split
      · exact Mu.edge_sound hs _
      · exact hs
  all_goals rw [show t = _ from hf]; exact hs

/-! ## The step -/

/-- A timer bumped runs exactly when it ran. -/
@[simp] theorem Timer.bump_isSome (t : Timer) (limit : Nat) : (Timer.bump t limit).isSome = t.isSome := by
  simp [Timer.bump]

/-- A step keeps the flags, the counts and the drive. -/
theorem soundFlags_of_step {s t : State} (h : s.soundLatches ∧ s.soundFault ∧ s.soundCounts ∧ s.soundDrive)
    (hstep : step s = .next t) : t.soundLatches ∧ t.soundFault ∧ t.soundCounts ∧ t.soundDrive := by
  have hkeeps := step_keeps (s := s) (t := t) (P := fun s => (s.nsc.sound ∧ s.le.soundCounts) ∧ s.soundDrive) (fun _ _ hs => hs)
    (fun _ hs => hs) (fun _ _ _ hs he =>
      ⟨⟨soundNsc_of_exec hs.1.1 he, soundCounts_of_exec hs.1.2 he⟩, soundDrive_of_exec hs.2 he⟩)
  have hs := (State.soundNode_iff s).1 ⟨h.1, h.2.1, h.2.2.1⟩
  obtain ⟨hnode, hdrive⟩ := hkeeps ⟨hs, h.2.2.2⟩ hstep
  obtain ⟨hlatches, hfault, hcounts⟩ := (State.soundNode_iff t).2 hnode
  exact ⟨hlatches, hfault, hcounts, hdrive⟩

/-- Settles O60: each relation looks at the blocks of a few units, whose commands keep it; the tick only runs timers on. -/
theorem stepKeepsNodeSound : Obligations.StepKeepsNodeSound := by
  refine ⟨fun s t hs h => soundFlags_of_step hs h, fun s t hs h => ?_, fun s t hs h => ?_⟩
  · refine step_keeps (P := State.soundRejoin) (fun _ _ hs => hs) (fun s hs => ?_) (fun _ _ _ => soundRejoin_of_exec) hs h
    exact State.soundRejoin_of_eq hs rfl rfl rfl (Timer.bump_isSome _ _)
  · refine step_keeps (P := fun s => s.mu.sound) (fun _ _ hs => hs) (fun s hs => ?_) (fun _ _ _ => soundMu_of_exec) hs h
    exact ⟨hs.1, (Timer.bump_isSome _ _).trans hs.2.1, hs.2.2⟩

end Sys2Proof.Machine
end

section
/-! SUPPORT. The fields that the NSC's operations leave as they were (R139 to R152). -/

namespace Sys2Proof.Machine

/-! ## report -/

@[simp] theorem State.report_prm (s : State) (c : Condition) (b : Bool) : (s.report c b).prm = s.prm := by rw [State.report_eq]
@[simp] theorem State.report_pvu (s : State) (c : Condition) (b : Bool) : (s.report c b).pvu = s.pvu := by rw [State.report_eq]
@[simp] theorem State.report_bi (s : State) (c : Condition) (b : Bool) : (s.report c b).bi = s.bi := by rw [State.report_eq]

/-! ## onPresent -/

@[simp] theorem State.onPresent_prm (s : State) (c : Condition) : (s.onPresent c).prm = s.prm := by rw [State.onPresent_eq]
@[simp] theorem State.onPresent_bi (s : State) (c : Condition) : (s.onPresent c).bi = s.bi := by rw [State.onPresent_eq]

/-! ## wakeWhen -/

@[simp] theorem State.wakeWhen_bi (s : State) (cause : Bool) : (s.wakeWhen cause).bi = s.bi := by
  rw [State.wakeWhen_eq]; split <;> rfl

/-! ## evalDormant -/

@[simp] theorem State.evalDormant_bi (s : State) (n : NodeState) (v : Nat) (st : SpeedStatus) :
    (s.evalDormant n v st).bi = s.bi := by rw [State.evalDormant_eq]
@[simp] theorem State.evalDormant_node (s : State) (n : NodeState) (v : Nat) (st : SpeedStatus) :
    (s.evalDormant n v st).nsc.node = s.nsc.node := by rw [State.evalDormant_eq]

/-! ## countPeriod -/

@[simp] theorem State.countPeriod_bi (s : State) : s.countPeriod.bi = s.bi := by rw [State.countPeriod_eq]

end Sys2Proof.Machine
end

section
/-! SUPPORT. The bus interface: the receive queue, the receiver, the transmitter with its slots, and both halves' being off exactly
in START and HALTED, through every command (R159, R161 to R170). -/

namespace Sys2Proof.Machine

/-! ## The receive queue -/

/-- A part of a sound queue is sound. -/
theorem soundQueue_of_sublist {q r : List RxFrame} (h : soundQueue q) (hr : r.Sublist q) : soundQueue r :=
  ⟨hr.length_le.trans h.1, h.2.sublist ((hr.filter _).map _)⟩

/-- Frames replaced by frames of the same source and kind leave the sources and periodic kinds. -/
theorem periodicKeys_map (r : RxFrame → RxFrame) (hr : ∀ g, (r g).src = g.src ∧ (r g).kind = g.kind) (q : List RxFrame) :
    ((q.map r).filter (fun f => f.kind.periodic)).map (fun f => (f.src, f.kind)) =
      (q.filter (fun f => f.kind.periodic)).map (fun f => (f.src, f.kind)) := by
  rw [List.filter_map, List.map_map]
  simp only [Function.comp_def, hr]

/-- A frame put at the tail keeps a queue with room sound, where it is not periodic or the first of its source and kind. -/
theorem soundQueue_append {q : List RxFrame} (h : soundQueue q) {f : RxFrame} (hroom : q.length < 8)
    (hf : f.kind.periodic = true → ∀ g ∈ q, g.same f = false) : soundQueue (q ++ [f]) := by
  refine ⟨by simpa using hroom, ?_⟩
  rw [List.filter_append, List.map_append]
  cases hp : f.kind.periodic with
  | false => simpa [hp] using h.2
  | true =>
    refine List.nodup_append.2 ⟨h.2, by simp [hp], ?_⟩
    intro x hx y hy
    simp only [hp, List.filter_cons, List.filter_nil, if_true, List.map_cons, List.map_nil, List.mem_singleton] at hy
    obtain ⟨g, hg, rfl⟩ := List.mem_map.1 hx
    have hne := hf hp g (List.mem_of_mem_filter hg)
    rintro rfl
    have hsame : g.same f = true := (RxFrame.same_iff g f).2 ⟨congrArg Prod.fst hy, congrArg Prod.snd hy⟩
    rw [hsame] at hne
    exact absurd hne (by decide)

/-- An offer keeps the queue sound, in each of its five cases (R164). -/
theorem soundQueue_offer {q : List RxFrame} (h : soundQueue q) (f : RxFrame) : soundQueue (offerFrame q f).1 := by
  unfold offerFrame
  split
  · rw [soundQueue, List.length_map, periodicKeys_map]
    · exact h
    · intro g
      split
      next hsame => exact ⟨((RxFrame.same_iff g f).1 hsame).1.symm, ((RxFrame.same_iff g f).1 hsame).2.symm⟩
      · exact ⟨rfl, rfl⟩
  next hfirst =>
    split
    next hroom =>
      refine soundQueue_append h hroom fun hp g hg => ?_
      simp only [hp, Bool.true_and, List.any_eq_true, not_exists, not_and, Bool.not_eq_true] at hfirst
      exact hfirst g hg
    next =>
      split
      · exact h
      next hp =>
        split
        next r hr =>
          obtain ⟨hsub, hlen⟩ := evictPeriodic_sublist hr
          exact soundQueue_append (soundQueue_of_sublist h hsub) (by have := h.1; omega) fun hp' => absurd hp' hp
        · exact h

/-- Taking the head keeps the queue sound. -/
theorem State.takeFrame_soundQueue {s : State} (h : soundQueue s.bi.rfq) : soundQueue s.takeFrame.bi.rfq := by
  unfold State.takeFrame
  split
  next hq =>
    rw [hq] at h
    exact soundQueue_of_sublist h (List.sublist_cons_self _ _)
  · exact h

/-- A SHUT keeps the queue sound. -/
theorem rxShut_soundQueue {s : State} (h : soundQueue s.bi.rfq) : soundQueue (rxShut s).bi.rfq := by
  unfold rxShut
  repeat' split
  all_goals first
    | exact h
    | (unfold State.offer
       dsimp only
       refine State.takeFrame_soundQueue ?_
       split <;> exact soundQueue_offer h _)

/-! ## The receiver -/

/-- A data character keeps the receiver sound. -/
theorem rxData_sound {r : Receiver} (h : r.sound) (own : Addr) (b : Byte) : (rxData own b r).sound := by
  cases r with
  | inFrame a => exact expandCopies_sound own b _ _ h.1 rfl
  | _ => trivial

/-- A RUN keeps the receiver sound: its count is 2..17. -/
theorem rxRun_sound {r : Receiver} (h : r.sound) (n : BitVec 4) : (rxRun n r).sound := by
  cases r with
  | inFrame a =>
    simp only [rxRun]
    split
    · trivial
    · refine ⟨h.1, fun k hk => ?_⟩
      have hn := n.isLt
      simp only [Option.mem_def, Option.some.injEq] at hk
      omega
  | _ => trivial

/-- An OPEN leaves the receiver sound: an accepted frame begins with no byte. -/
theorem rxOpen_sound {s : State} (h : s.bi.rx.sound) (b : Byte) : (rxOpen s b).bi.rx.sound := by
  have haccept : (acceptOpen s b).sound := by
    unfold acceptOpen
    repeat' split
    · trivial
    · exact ⟨Nat.zero_le _, by simp [openAssembler]⟩
    · trivial
  unfold rxOpen
  repeat' split
  all_goals first
    | exact h
    | exact haccept
    | trivial

/-- What an event of the line does to the receiver's power: nothing. -/
theorem rxOpen_off (s : State) (b : Byte) : (rxOpen s b).bi.rx = .off ↔ s.bi.rx = .off := by
  unfold rxOpen acceptOpen
  repeat' split
  all_goals simp_all

/-- A SHUT leaves the receiver in HUNT, or off. -/
theorem rxShut_rx (s : State) : (rxShut s).bi.rx = if s.bi.rx = .off then .off else .hunt := by
  unfold rxShut
  cases h : s.bi.rx with
  | off => simp [h]
  | inFrame a =>
    dsimp only
    split
    · rw [State.offer_eq]; simp
    · simp
  | _ => simp

/-! ## The slots -/

/-- Every slot's abort count is 0..2. -/
def Slots.sound (x : Slots) : Prop := ∀ k, soundSlot (x.get k)

/-- The four slots there are. -/
theorem Slots.sound_iff (x : Slots) : x.sound ↔
    soundSlot x.halt ∧ soundSlot x.rider ∧ soundSlot x.contrib ∧ soundSlot x.report := by
  refine ⟨fun h => ⟨h .halt, h .rider, h .contrib, h .report⟩, fun ⟨hhalt, hrider, hcontrib, hreport⟩ k => ?_⟩
  cases k <;> first | assumption | exact fun f hf => absurd hf (by simp [Slots.get])

/-- A sound content put into a slot keeps the slots sound. -/
theorem Slots.put_sound {x : Slots} (h : x.sound) (k : FrameKind) {v : Option Slot} (hv : soundSlot v) : (x.put k v).sound := by
  intro j
  by_cases hjk : j = k
  · subst hjk
    cases hs : FrameKind.hasSlot j with
    | true => rw [Slots.get_put_self x v hs]; exact hv
    | false => cases j <;> first | exact h _ | exact absurd hs (by decide)
  · rw [Slots.get_put_ne x v hjk]; exact h j

/-- Some slot holds a frame exactly when there is a lowest kind. -/
theorem Slots.lowest_isSome {x : Slots} {k : FrameKind} (hk : FrameKind.hasSlot k = true) (h : (x.get k).isSome = true) :
    x.lowest.isSome = true := by
  by_contra hnone
  obtain ⟨hhalt, hrider, hcontrib, hreport⟩ := Slots.lowest_none.1 (by simpa using hnone)
  cases k <;> simp_all [Slots.get, FrameKind.hasSlot]

/-- A frame given back keeps the slots sound. -/
theorem Slots.giveBack_sound {x : Slots} (h : x.sound) (f : InFlight) {n : Nat} (hn : n ≤ 2) : (x.giveBack f n).sound := by
  unfold Slots.giveBack
  split
  · exact h
  · exact Slots.put_sound h _ (by simpa [soundSlot] using hn)

/-- A frame given back leaves its slot filled. -/
theorem Slots.giveBack_lowest (x : Slots) {f : InFlight} (hf : FrameKind.hasSlot f.kind = true) (n : Nat) :
    (x.giveBack f n).lowest.isSome = true := by
  unfold Slots.giveBack
  split
  next hfull => exact Slots.lowest_isSome hf hfull
  · exact Slots.lowest_isSome hf (by rw [Slots.get_put_self x _ hf]; rfl)

/-! ## The transmitter -/

/-- The transmitter's soundness, the slots taken together. -/
theorem Bi.soundTx_iff (b : Bi) : b.soundTx ↔ (b.tx = .sending ↔ b.inFlight.isSome) ∧ (b.tx = .aborting ↔ b.abortTime.isSome) ∧
    (b.tx = .waitGap → b.slots.lowest.isSome) ∧ (b.tx = .idle ∨ b.tx = .off → b.slots.lowest = none) ∧
    (∀ f ∈ b.inFlight, FrameKind.hasSlot f.kind = true ∧ f.aborts ≤ 2 ∧ f.begun ≤ 11 * f.chars.length) ∧ b.slots.sound := by
  rw [Slots.sound_iff]
  rfl

/-- What a change of the bus interface leaves: the receiver, the queue, the power of the transmitter, and its soundness. -/
def Bi.Keeps (a b : Bi) : Prop :=
  b.rx = a.rx ∧ b.rfq = a.rfq ∧ (b.tx = .off ↔ a.tx = .off) ∧ (a.soundTx → b.soundTx)

/-- Nothing changed. -/
theorem Bi.Keeps.refl (b : Bi) : b.Keeps b := ⟨rfl, rfl, Iff.rfl, id⟩

/-- A fill keeps the transmitter sound: an IDLE one goes to WAIT_GAP. -/
theorem State.fill_keeps (s : State) {k : FrameKind} (hk : FrameKind.hasSlot k = true) (p : List Byte) :
    s.bi.Keeps (s.fill k p).bi := by
  by_cases hoff : s.bi.tx = .off
  · rw [State.fill, if_pos hoff]; exact .refl _
  rw [State.fill_bi s k p hoff]
  refine ⟨rfl, rfl, ?_, fun h => ?_⟩
  · dsimp only; split <;> simp_all
  · rw [Bi.soundTx_iff] at h ⊢
    obtain ⟨hsending, haborting, -, -, hflight, hslots⟩ := h
    have hfull : (s.bi.slots.put k (some ⟨p, 0⟩)).lowest.isSome = true :=
      Slots.lowest_isSome hk (by rw [Slots.get_put_self _ _ hk]; rfl)
    refine ⟨?_, ?_, fun _ => hfull, ?_, hflight, Slots.put_sound hslots k (by simp [soundSlot])⟩
    · dsimp only; rw [← hsending]; split <;> simp_all
    · dsimp only; rw [← haborting]; split <;> simp_all
    · dsimp only; split <;> simp_all

/-- The last step of an arrival keeps the bus interface. -/
theorem State.contribStep_keeps (s : State) (c : Contrib) : s.bi.Keeps (s.contribStep c).bi := by
  have hadmit : s.admitFill.1.bi = s.bi := by unfold State.admitFill; repeat' split
                                              all_goals rfl
  unfold State.contribStep State.fillContrib
  dsimp only
  split
  · rw [← hadmit]; exact State.fill_keeps _ rfl _
  · rw [hadmit]; exact .refl _

/-- The RIDER fill keeps the bus interface. -/
theorem State.riderStep_keeps (s : State) : s.bi.Keeps s.riderStep.bi := by
  unfold State.riderStep
  split
  · exact .refl _
  · exact .refl _
  · exact State.fill_keeps s rfl _

/-- A reply keeps the bus interface. -/
theorem State.reply_keeps (s : State) (p : List Byte) : s.bi.Keeps (s.reply p).bi := State.fill_keeps s rfl p

/-- A QUERY keeps the bus interface. -/
theorem State.query_keeps (s : State) (i : Instr) (item index page : Byte) (data : State → Option (List Byte)) :
    s.bi.Keeps (s.query i item index page data).bi := by
  unfold State.query State.answer
  dsimp only
  repeat' split
  · exact State.reply_keeps (s.taken i) _
  · exact State.reply_keeps (s.taken i) _
  · exact .refl _

/-! ## The power of the two halves (R170) -/

/-- The whole of the bus interface's soundness. -/
def State.soundBusFull (s : State) : Prop := soundQueue s.bi.rfq ∧ s.soundBus

/-- A kept bus interface stays sound in a node state as live as before. -/
theorem State.soundBusFull_of_keeps {s t : State} (h : s.soundBusFull) (hbi : s.bi.Keeps t.bi)
    (hlive : t.nsc.node.live = s.nsc.node.live) : t.soundBusFull := by
  obtain ⟨hqueue, hrx, htx, hrxPower, htxPower⟩ := h
  obtain ⟨hrxEq, hqueueEq, htxOff, hkeeps⟩ := hbi
  refine ⟨by rw [hqueueEq]; exact hqueue, by rw [hrxEq]; exact hrx, hkeeps htx, ?_, ?_⟩
  · rw [hrxEq, hlive]; exact hrxPower
  · rw [htxOff, hlive]; exact htxPower

/-- An NSC operation moves the node among live states only. -/
def LiveKept (s t : State) : Prop := t.nsc.node.live = s.nsc.node.live

/-- A condition newly present moves a live node to a live state, and START at most to HALTED. -/
theorem State.onPresent_live (s : State) (c : Condition) : LiveKept s (s.onPresent c) := by
  unfold LiveKept State.onPresent State.leaveRunning
  cases hn : s.nsc.node <;> dsimp only <;> (repeat' split) <;> simp_all [NodeState.live]

/-- A condition found present or absent moves a live node to a live state. -/
theorem State.report_live (s : State) (c : Condition) (b : Bool) : LiveKept s (s.report c b) := by
  unfold State.report
  repeat' split
  · rfl
  · exact State.onPresent_live (s.setNsc _) c
  · rfl
  · rfl

/-- A wake test moves DORMANT to ACTIVE. -/
theorem State.wakeWhen_live (s : State) (cause : Bool) : LiveKept s (s.wakeWhen cause) := by
  rw [State.wakeWhen_eq]
  split
  next h => simp [LiveKept, h.1, NodeState.live]
  · rfl

/-- The work of a period notice moves a live node to a live state. -/
theorem State.countPeriod_live (s : State) : LiveKept s s.countPeriod := by
  unfold LiveKept State.countPeriod
  cases hn : s.nsc.node <;> dsimp only <;> (repeat' split) <;> simp_all [NodeState.live]

/-- A passage from CLAMPED to FREE is one between live states. -/
theorem State.freeAtSpeed_live (s : State) (p : Prop) [Decidable p] :
    LiveKept s (if s.nsc.node = .clamped ∧ p then s.enterNode .free else s) := by
  split
  next h => simp [LiveKept, h.1, NodeState.live]
  · rfl

/-- The NSC's commands move a live node to live states and one that is not live to none. -/
theorem live_of_exec_nsc {c : Instr} {s t : State} (hc : takerOf c = .nsc) (h : exec c s = .next t) : LiveKept s t := by
  cases c <;> cases hc <;> cases h
  case conditionReport c present =>
    simp only [LiveKept, State.evalRejoin_nsc, State.evalDormant_node]
    refine (State.report_live _ c present).trans ?_
    split
    · rw [State.fill_eq]; rfl
    · rfl
  case haltHandoff =>
    dsimp only
    split
    · refine (State.onPresent_live _ _).trans ?_
      rfl
    · rfl
  case frameNotice => exact State.wakeWhen_live (s.taken _) _
  case wakeCauseReport => exact State.wakeWhen_live (s.taken _) _
  case sweepNoticeNsc =>
    dsimp only
    split
    · refine (State.wakeWhen_live _ _).trans ((State.report_live _ _ _).trans (State.report_live _ _ _))
    · rfl
  case speedStatusChangeNsc =>
    dsimp only
    split
    · simp only [LiveKept, State.evalRejoin_nsc, State.evalDormant_node]
      refine (State.freeAtSpeed_live _ _).trans ((State.report_live _ _ _).trans (State.report_live _ _ _))
    · rfl
  case viewChange =>
    dsimp only
    split
    · exact State.report_live (s.taken _) _ _
    · rfl
  case topChangeNoticeNsc =>
    dsimp only
    split
    · simp only [LiveKept, State.evalDormant_node]
      refine (State.wakeWhen_live _ _).trans ?_
      rfl
    · rfl
  case bfltChange =>
    dsimp only
    split
    · exact State.report_live { s with pins := _ } _ _
    · rfl
  case periodNotice =>
    dsimp only
    split
    · simp only [LiveKept, State.evalDormant_node]
      exact State.countPeriod_live (s.taken _)
    · rfl
  case rejoinTimerExpiry =>
    split
    next h => rcases h.2 with hn | hn <;> simp [LiveKept, hn, NodeState.live]
    · rfl
  case dormantDwellExpiry =>
    split
    next h =>
      split
      · simp [LiveKept, h.2, NodeState.live]
      · rfl
    · rfl

/-- The NSC's commands keep the bus interface: a new OVERLEAN fills the HALT slot. -/
theorem biKeeps_of_exec_nsc {c : Instr} {s t : State} (hc : takerOf c = .nsc) (h : exec c s = .next t) : s.bi.Keeps t.bi := by
  cases c <;> cases hc <;> cases h
  case conditionReport c present =>
    simp only [State.evalRejoin_bi, State.evalDormant_bi, State.report_bi]
    split
    · exact State.fill_keeps (s.taken _) rfl _
    · exact .refl _
  case haltHandoff | sweepNoticeNsc | viewChange | topChangeNoticeNsc | bfltChange | periodNotice =>
    dsimp only
    split
    · simpa using Bi.Keeps.refl _
    · exact .refl _
  case frameNotice | wakeCauseReport => simpa using Bi.Keeps.refl _
  case speedStatusChangeNsc =>
    dsimp only
    split
    · rw [State.evalRejoin_bi, State.evalDormant_bi]
      split <;> simpa using Bi.Keeps.refl _
    · exact .refl _
  case rejoinTimerExpiry => split <;> exact .refl _
  case dormantDwellExpiry =>
    repeat' split
    all_goals exact .refl _

/-! ## The transmitter's own commands -/

/-- After a frame the transmitter is in WAIT_GAP or IDLE, as its slots have it. -/
theorem Slots.rest_cases (x : Slots) : x.rest = .waitGap ∧ x.lowest.isSome = true ∨ x.rest = .idle ∧ x.lowest = none := by
  unfold Slots.rest
  cases x.lowest <;> simp

/-- A transmitter at rest, with no frame in flight and no break, is sound. -/
theorem Bi.soundTx_rest {b : Bi} (htx : b.tx = b.slots.rest) (hflight : b.inFlight = none) (habort : b.abortTime = none)
    (hslots : b.slots.sound) : b.soundTx := by
  rw [Bi.soundTx_iff, htx, hflight, habort]
  rcases b.slots.rest_cases with ⟨hrest, hlow⟩ | ⟨hrest, hlow⟩ <;> simp [hrest, hlow, hslots]

/-- What the transmitter's commands leave of the bus interface, a reset apart. -/
def Bi.TxKeeps (a b : Bi) : Prop :=
  b.rx = a.rx ∧ b.rfq = a.rfq ∧ (a.soundTx → (b.tx = .off ↔ a.tx = .off) ∧ b.soundTx)

/-- Nothing changed. -/
theorem Bi.TxKeeps.refl (b : Bi) : b.TxKeeps b := ⟨rfl, rfl, fun h => ⟨Iff.rfl, h⟩⟩

/-- While a frame is sent there is no break. -/
theorem Bi.soundTx.noBreak {b : Bi} (h : b.soundTx) (htx : b.tx = .sending) : b.abortTime = none := by
  have haborting := h.2.1
  rw [htx] at haborting
  simpa using haborting

/-- A break that begins, with the frame given back or discarded, leaves the transmitter sound. -/
theorem Bi.abort_sound (b : Bi) {x : Slots} (hx : x.sound) : (b.abort x).soundTx := by
  rw [Bi.soundTx_iff]
  simp [Bi.abort, hx]

/-- The transmitter's commands keep the bus interface, or reset the node. -/
theorem txKeeps_of_exec {c : Instr} {s t : State} (hc : takerOf c = .tx) (h : exec c s = .next t) :
    (s.bi.TxKeeps t.bi ∧ t.nsc = s.nsc) ∨ ResetOf s t := by
  cases c <;> cases hc <;> cases h
  case frameSent =>
    split
    next f htx hflight =>
      split
      · exact .inr ⟨s.pins, _, _, rfl⟩
      · refine .inl ⟨⟨rfl, rfl, fun h => ?_⟩, rfl⟩
        have hbreak := h.noBreak htx
        rw [Bi.soundTx_iff] at h
        obtain ⟨-, -, -, -, -, hslots⟩ := h
        refine ⟨?_, Bi.soundTx_rest rfl rfl hbreak hslots⟩
        rcases s.bi.slots.rest_cases with ⟨hrest, -⟩ | ⟨hrest, -⟩ <;> simp [hrest, htx]
    · exact .inl ⟨.refl _, rfl⟩
  case arbitrationLoss =>
    split
    next f htx hflight =>
      refine .inl ⟨⟨rfl, rfl, fun h => ?_⟩, rfl⟩
      have hbreak := h.noBreak htx
      rw [Bi.soundTx_iff] at h
      obtain ⟨-, -, -, -, hf, hslots⟩ := h
      obtain ⟨hslot, haborts, -⟩ := hf f hflight
      refine ⟨by simp [htx], ?_⟩
      rw [Bi.soundTx_iff]
      simp [hbreak, Slots.giveBack_lowest _ hslot, Slots.giveBack_sound hslots f haborts]
    · exact .inl ⟨.refl _, rfl⟩
  case readbackMismatch =>
    split
    next f htx hflight =>
      split
      next hagain =>
        refine .inl ⟨⟨rfl, rfl, fun h => ?_⟩, rfl⟩
        rw [Bi.soundTx_iff] at h
        obtain ⟨-, -, -, -, hf, hslots⟩ := h
        refine ⟨by simp [htx, Bi.abort], Bi.abort_sound _ ?_⟩
        rcases Bool.or_eq_true _ _ ▸ hagain with hless | hfull
        · exact Slots.giveBack_sound hslots f (by simpa [Config.abortLimit, Nat.lt_succ_iff] using hless)
        · rw [Slots.giveBack, if_pos hfull]; exact hslots
      · split
        · exact .inr ⟨s.pins, _, _, rfl⟩
        · refine .inl ⟨⟨rfl, rfl, fun h => ?_⟩, rfl⟩
          rw [Bi.soundTx_iff] at h
          obtain ⟨-, -, -, -, -, hslots⟩ := h
          exact ⟨by simp [htx, Bi.abort], Bi.abort_sound _ hslots⟩
    · exact .inl ⟨.refl _, rfl⟩
  case abortBreakEnd =>
    split
    next hend =>
      refine .inl ⟨⟨rfl, rfl, fun h => ?_⟩, rfl⟩
      rw [Bi.soundTx_iff] at h
      obtain ⟨hsending, -, -, -, -, hslots⟩ := h
      have hflight : s.bi.inFlight = none := by rw [hend.1] at hsending; simpa using hsending
      refine ⟨?_, Bi.soundTx_rest rfl hflight rfl hslots⟩
      rcases s.bi.slots.rest_cases with ⟨hrest, -⟩ | ⟨hrest, -⟩ <;> simp [hrest, hend.1]
    · exact .inl ⟨.refl _, rfl⟩

/-! ## The events of the line -/

/-- The start of a transmission keeps the transmitter sound. -/
theorem State.startSending_sound {s : State} (h : s.bi.soundTx) (htx : s.bi.tx = .waitGap) : s.startSending.bi.soundTx := by
  unfold State.startSending
  split
  · exact h
  next k hk =>
    obtain ⟨hslot, -⟩ := Slots.get_of_lowest hk
    split
    · exact h
    next f hf =>
      rw [Bi.soundTx_iff] at h ⊢
      obtain ⟨-, haborting, -, -, -, hslots⟩ := h
      rw [htx] at haborting
      refine ⟨by simp, by simpa using haborting, by simp, by simp, ?_, Slots.put_sound hslots k (by simp [soundSlot])⟩
      rintro g ⟨⟩
      exact ⟨hslot, hslots k f hf, Nat.zero_le _⟩

/-- What an event of the line leaves: the power of both halves, and their soundness. -/
def LineKeeps (s t : State) : Prop :=
  (t.bi.rx = .off ↔ s.bi.rx = .off) ∧ (t.bi.tx = .off ↔ s.bi.tx = .off) ∧ t.nsc = s.nsc ∧
    (soundQueue s.bi.rfq → soundQueue t.bi.rfq) ∧ (s.bi.rx.sound → t.bi.rx.sound) ∧ (s.bi.soundTx → t.bi.soundTx)

/-- An event that changes only the receiver and the level last read. -/
theorem lineKeeps_setRx (s : State) (level : Bool) {r : Receiver} (hoff : r = .off ↔ s.bi.rx = .off)
    (hsound : s.bi.rx.sound → r.sound) : LineKeeps s ((s.readLine level).setRx r) := by
  rw [State.readLine_eq]
  exact ⟨hoff, Iff.rfl, rfl, id, hsound, id⟩

/-- One event after another. -/
theorem LineKeeps.trans {s t u : State} (h : LineKeeps s t) (h' : LineKeeps t u) : LineKeeps s u := by
  obtain ⟨hrxOff, htxOff, hnsc, hqueue, hrx, htx⟩ := h
  obtain ⟨hrxOff', htxOff', hnsc', hqueue', hrx', htx'⟩ := h'
  exact ⟨hrxOff'.trans hrxOff, htxOff'.trans htxOff, hnsc'.trans hnsc, hqueue' ∘ hqueue, hrx' ∘ hrx, htx' ∘ htx⟩

/-- Reading the line. -/
theorem State.readLine_keeps (s : State) (level : Bool) : LineKeeps s (s.readLine level) := by
  rw [State.readLine_eq]
  exact ⟨Iff.rfl, Iff.rfl, rfl, id, id, id⟩

/-- An OPEN. -/
theorem rxOpen_keeps (s : State) (b : Byte) : LineKeeps s (rxOpen s b) := by
  have hoff := rxOpen_off s b
  have hsound := fun h => rxOpen_sound (s := s) h b
  rw [rxOpen_eq] at hoff hsound ⊢
  exact ⟨hoff, Iff.rfl, rfl, id, hsound, id⟩

/-- A SHUT. -/
theorem rxShut_keeps (s : State) : LineKeeps s (rxShut s) := by
  have hrx := rxShut_rx s
  have hqueue := fun h => rxShut_soundQueue (s := s) h
  rw [rxShut_eq] at hrx hqueue ⊢
  dsimp only at hrx
  refine ⟨?_, Iff.rfl, rfl, hqueue, fun _ => ?_, id⟩
  · dsimp only; rw [hrx]; split <;> simp_all
  · dsimp only; rw [hrx]; split <;> trivial

/-- The start of a transmission. -/
theorem State.startSending_keeps {s : State} (htx : s.bi.tx = .waitGap) : LineKeeps s s.startSending := by
  have hsound := fun h => State.startSending_sound (s := s) h htx
  have hon : s.startSending.bi.tx ≠ .off := by
    unfold State.startSending
    repeat' split
    all_goals simp [htx]
  rw [State.startSending_eq] at hsound hon ⊢
  exact ⟨Iff.rfl, iff_of_false hon (by simp [htx]), rfl, id, id, hsound⟩

/-- A receiver that abandons a frame. -/
theorem rxAbandon_keeps (r : Receiver) : (rxAbandon r = .off ↔ r = .off) ∧ (rxAbandon r).sound := by
  cases r <;> simp [rxAbandon, Receiver.sound]

/-- The events of the line keep the bus interface sound. -/
theorem lineKeeps_of_exec {c : Instr} {s t : State} (hc : takerOf c = .line) (h : exec c s = .next t) : LineKeeps s t := by
  cases c <;> cases hc <;> cases h
  case dataCharacter b =>
    refine lineKeeps_setRx s true ?_ fun h => rxData_sound h _ b
    cases s.bi.rx with
    | inFrame a => simp only [rxData]; cases expandCopies s.cl.ownAddr b (a.run.getD 1) { a with run := none } <;> simp [Expansion.receiver]
    | _ => simp [rxData]
  case runMark n =>
    refine lineKeeps_setRx s true ?_ fun h => rxRun_sound h n
    cases s.bi.rx with
    | inFrame a => simp only [rxRun]; split <;> simp
    | _ => simp [rxRun]
  case openMark b => exact (s.readLine_keeps true).trans (rxOpen_keeps _ b)
  case shutMark => exact (s.readLine_keeps true).trans (rxShut_keeps _)
  case unnamedMark => exact lineKeeps_setRx s true (rxAbandon_keeps _).1 fun _ => (rxAbandon_keeps _).2
  case framingError => exact lineKeeps_setRx s false (rxAbandon_keeps _).1 fun _ => (rxAbandon_keeps _).2
  case lineBreak => exact lineKeeps_setRx s false (rxAbandon_keeps _).1 fun _ => (rxAbandon_keeps _).2
  case frameTimeout =>
    refine lineKeeps_setRx s true ?_ fun h => ?_
    · cases s.bi.rx <;> simp [rxTimeout]
    · cases hrx : s.bi.rx <;> trivial
  case idle =>
    have hopen : LineKeeps s ((s.readLine true).setRx (rxIdle s.bi.rx)) := by
      refine lineKeeps_setRx s true ?_ fun h => ?_
      · cases s.bi.rx <;> simp [rxIdle]
      · cases hrx : s.bi.rx <;> (rw [hrx] at h; exact h)
    dsimp only
    split
    · exact hopen.trans (State.startSending_keeps ‹_›)
    · exact hopen

/-! ## The step -/

/-- A reset leaves the bus interface off and empty, in START. -/
theorem ResetOf.busFull {s t : State} (h : ResetOf s t) : t.soundBusFull := by
  obtain ⟨pins, latches, lastHalt, rfl⟩ := h
  refine ⟨⟨Nat.zero_le _, List.nodup_nil⟩, trivial, ?_, ?_⟩
  · rw [Bi.soundTx_iff, Slots.sound_iff]
    simp [resetNode, State.reset, Bi.reset, Slots.lowest, soundSlot]
  · simp [State.soundPower, resetNode, State.reset, Bi.reset, Nsc.reset, NodeState.live]

/-- A good image switches the bus interface on: HUNT and IDLE, with nothing to send, in LISTEN. -/
theorem State.imageLoaded_busFull {s : State} (h : s.soundBusFull) (hstart : s.nsc.node = .start) (im : Image) :
    (s.imageLoaded im).soundBusFull := by
  obtain ⟨hqueue, -, htx, -, htxPower⟩ := h
  have hoff : s.bi.tx = .off := htxPower.2 (by rw [hstart]; rfl)
  rw [Bi.soundTx_iff] at htx
  obtain ⟨hsending, haborting, -, hempty, hflight, hslots⟩ := htx
  rw [hoff] at hsending haborting hempty
  refine ⟨hqueue, trivial, ?_, ?_⟩
  · rw [Bi.soundTx_iff]
    exact ⟨by simpa [State.imageLoaded, State.takeSources] using hsending,
      by simpa [State.imageLoaded, State.takeSources] using haborting, by simp [State.imageLoaded, State.takeSources],
      fun _ => hempty (.inr rfl), hflight, hslots⟩
  · simp [State.soundPower, State.imageLoaded, State.takeSources, NodeState.live]

/-- The peer view's commands keep the bus interface sound: a frame-done takes the head of the queue. -/
theorem soundBus_of_exec_pvu {c : Instr} {s t : State} (hc : takerOf c = .pvu) (hs : s.soundBusFull)
    (h : exec c s = .next t) : t.soundBusFull := by
  cases c <;> cases hc <;> cases h
  case frameDone =>
    split
    · split
      · rw [State.nextFrame_eq, State.applyFrame_eq]
        exact ⟨soundQueue_of_sublist hs.1 (List.tail_sublist _), hs.2⟩
      · exact hs
    · exact hs
  case sweepNoticePvu =>
    dsimp only
    repeat' split
    · rw [State.viewSweep_eq, State.reevaluate_eq]; exact hs
    · rw [State.reevaluate_eq]; exact hs
    · exact hs
  case handlebarRampStep =>
    dsimp only
    split
    · rw [State.rampStep_eq]; exact hs
    · exact hs
  case speedHoldExpiry =>
    split
    · rw [State.reevaluate_eq]; exact hs
    · exact hs
  case handlebarHoldExpiry =>
    split
    · rw [State.setView_eq]; exact hs
    · exact hs
  case rowSweepExpiry => split <;> exact hs

/-- The TSU touches the bus interface by fills only. -/
theorem biKeeps_of_exec_tsu {c : Instr} {s t : State} (hc : takerOf c = .tsu) (h : exec c s = .next t) : s.bi.Keeps t.bi := by
  cases c <;> cases hc <;> cases h
  case newTargetArrivalTsu =>
    dsimp only
    split
    · exact State.contribStep_keeps _ _
    · exact .refl _
  case nodeStateChangeTsu => dsimp only; split <;> exact .refl _

/-- The SLU touches the bus interface by fills only. -/
theorem biKeeps_of_exec_slu {c : Instr} {s t : State} (hc : takerOf c = .slu) (h : exec c s = .next t) : s.bi.Keeps t.bi := by
  cases c <;> cases hc <;> cases h
  case newTargetArrivalSlu =>
    dsimp only
    split
    · exact State.contribStep_keeps _ _
    · exact .refl _
  case nodeStateChangeSlu => dsimp only; split <;> exact .refl _
  case sweepNoticeSlu =>
    dsimp only
    split
    · exact State.riderStep_keeps (s.taken _)
    · exact .refl _

/-- A QUERY touches the bus interface by its reply only. -/
theorem biKeeps_of_exec_query {c : Instr} {s t : State} (hc : takerOf c = .query) (h : exec c s = .next t) :
    s.bi.Keeps t.bi := by
  cases c <;> cases hc <;> cases h <;> exact State.query_keeps s _ _ _ _ _

/-- A CLEAR touches the bus interface by its reply only, and no node state. -/
theorem biKeeps_of_exec_clear {c : Instr} {s t : State} (hc : takerOf c = .clear) (h : exec c s = .next t) :
    s.bi.Keeps t.bi ∧ t.nsc.node = s.nsc.node := by
  cases c <;> cases hc <;> cases h
  case clearLatches =>
    dsimp only
    split
    · exact ⟨State.reply_keeps _ _, by simp [State.clearLatches]⟩
    · exact ⟨.refl _, rfl⟩
  case clearRestart =>
    dsimp only
    repeat' split
    · exact ⟨State.reply_keeps _ _, by simp⟩
    · exact ⟨State.reply_keeps _ _, by simp⟩
    · exact ⟨.refl _, rfl⟩
  case clearUnknownAction =>
    dsimp only
    split
    · exact ⟨State.reply_keeps _ _, by simp⟩
    · exact ⟨.refl _, rfl⟩

/-- Every command keeps the bus interface sound. -/
theorem soundBus_of_exec {c : Instr} {s t : State} (hs : s.soundBusFull) (h : exec c s = .next t) : t.soundBusFull := by
  have hf := exec_frame h
  cases hc : takerOf c <;> rw [hc] at hf
  case reset => exact hf.elim (fun e => by rw [e]; exact hs) ResetOf.busFull
  case tx =>
    rcases txKeeps_of_exec hc h with ⟨⟨hrx, hqueue, htx⟩, hnsc⟩ | hreset
    · obtain ⟨hoff, hsound⟩ := htx hs.2.2.1
      exact State.soundBusFull_of_keeps hs ⟨hrx, hqueue, hoff, fun _ => hsound⟩ (by rw [hnsc])
    · exact hreset.busFull
  case line =>
    obtain ⟨hqueue, hrx, htx, hrxPower, htxPower⟩ := hs
    obtain ⟨hrxOff, htxOff, hnsc, hqueue', hrx', htx'⟩ := lineKeeps_of_exec hc h
    exact ⟨hqueue' hqueue, hrx' hrx, htx' htx, by rw [hrxOff, hnsc]; exact hrxPower, by rw [htxOff, hnsc]; exact htxPower⟩
  case nsc => exact State.soundBusFull_of_keeps hs (biKeeps_of_exec_nsc hc h) (live_of_exec_nsc hc h)
  case loader =>
    cases c <;> cases hc
    cases h
    split
    next hstart =>
      split
      · exact State.imageLoaded_busFull hs hstart.1 _
      · refine State.soundBusFull_of_keeps hs ?_ (State.report_live (s.keepImage _ _) _ _)
        simpa [State.imageRefused] using Bi.Keeps.refl _
    · exact hs
  case pvu => exact soundBus_of_exec_pvu hc hs h
  case tsu => exact State.soundBusFull_of_keeps hs (biKeeps_of_exec_tsu hc h) (by rw [show t = _ from hf])
  case slu => exact State.soundBusFull_of_keeps hs (biKeeps_of_exec_slu hc h) (by rw [show t = _ from hf])
  case query => exact State.soundBusFull_of_keeps hs (biKeeps_of_exec_query hc h) (by rw [show t = _ from hf])
  case clear =>
    obtain ⟨hbi, hnode⟩ := biKeeps_of_exec_clear hc h
    exact State.soundBusFull_of_keeps hs hbi (by rw [hnode])
  all_goals rw [show t = _ from hf]; exact hs

/-- A bit time keeps the transmitter sound: the frame in flight moves to a bit it has. -/
theorem Bi.bitTime_sound {b : Bi} (h : b.soundTx) (others : Bool) : (b.bitTime others).soundTx := by
  rw [Bi.bitTime_eq]
  obtain ⟨hsending, haborting, hwait, hempty, hflight, hslots⟩ := h
  refine ⟨by simpa using hsending, by simpa using haborting, hwait, hempty, ?_, hslots⟩
  intro g hg
  obtain ⟨f, hf, rfl⟩ := Option.map_eq_some_iff.1 hg
  obtain ⟨hkind, haborts, hbegun⟩ := hflight f hf
  unfold InFlight.nextBit
  split
  · exact ⟨hkind, haborts, by dsimp only; omega⟩
  · exact ⟨hkind, haborts, hbegun⟩

/-- Settles O59: the events of the line, the transmitter's, and the fills keep the bus interface; the peer view takes frames from
the queue, and the NSC moves a live node to live states only. -/
theorem stepKeepsBusSound : Obligations.StepKeepsBusSound := by
  refine fun _ _ => step_keeps (P := State.soundBusFull) (fun _ _ hs => hs) (fun s hs => ?_) fun _ _ _ => soundBus_of_exec
  obtain ⟨hqueue, hrx, htx, hpower⟩ := hs
  exact ⟨hqueue, hrx, Bi.bitTime_sound htx _, hpower⟩

end Sys2Proof.Machine
end

section
/-! SUPPORT. The step with nothing to take, the output pins, and the two resets (scope sections 4 to 6, R143, R178). -/

namespace Sys2Proof.Machine

/-! ## The timers of a tick -/

/-- Each timer has its own expiry command. -/
theorem State.timers_commands (s : State) : (s.timers.map (fun q => q.2.2)).Nodup := by
  simp [State.timers]

/-- A tick bumps the brake timer toward either limit. -/
theorem State.tick_brakeTimer (s : State) (l : BrakeLimit) : s.tick.brakeTimer l = Timer.bump (s.brakeTimer l) l.us := by
  unfold State.brakeTimer
  rw [show s.tick.hasBcu = s.hasBcu from rfl]
  cases hb : s.hasBcu with
  | false => rfl
  | true =>
    cases ht : s.bcu.timer with
    | none => simp [State.tick, hb, ht, Timer.bump]
    | some q =>
      obtain ⟨m, n⟩ := q
      by_cases hm : m = l <;> simp [State.tick, hb, ht, hm, Timer.bump]

/-- A tick bumps the time of the frame in processing. -/
theorem State.tick_frameTimer (s : State) : s.tick.frameTimer = Timer.bump s.frameTimer Config.tFrame := by
  unfold State.frameTimer State.tick Timer.bump
  simp only [Option.map_map]
  rfl

/-- A tick bumps every timer toward its limit. -/
theorem State.tick_timers (s : State) : s.tick.timers = s.timers.map (fun q => (Timer.bump q.1 q.2.1, q.2)) := by
  simp only [State.timers, State.tick_brakeTimer, State.tick_frameTimer]
  rfl

/-- A timer expires exactly one µs before its limit. -/
theorem Timer.expires_iff (t : Timer) (limit : Nat) : t.expires limit = true ↔ ∃ n, t = some n ∧ n + 1 = limit := by
  cases t <;> simp [Timer.expires]

/-- In a list of timers of distinct commands a command is queued exactly when its own timer expires. -/
theorem mem_expiries_iff {l : List (Timer × Nat × Instr)} (hnodup : (l.map (fun q => q.2.2)).Nodup) {i : Nat} {t : Timer}
    {limit : Nat} {c : Instr} (hi : l[i]? = some (t, limit, c)) :
    c ∈ l.filterMap (fun q => if q.1.expires q.2.1 then some q.2.2 else none) ↔ t.expires limit = true := by
  have hmem : (t, limit, c) ∈ l := List.mem_of_getElem? hi
  constructor
  · intro h
    obtain ⟨q, hq, hc⟩ := List.mem_filterMap.1 h
    split at hc
    next hexp =>
      have hcmd : q.2.2 = c := by simpa using hc
      obtain rfl : q = (t, limit, c) := List.inj_on_of_nodup_map hnodup hq hmem hcmd
      exact hexp
    next => simp at hc
  · intro h
    exact List.mem_filterMap.2 ⟨_, hmem, if_pos h⟩

/-- With nothing queued a tick queues an expiry exactly when its timer comes to its limit. -/
theorem State.tick_pending_iff {s : State} (hpending : s.pending = []) {i : Nat} {t : Timer} {limit : Nat} {c : Instr}
    (hi : s.timers[i]? = some (t, limit, c)) : c ∈ s.tick.pending ↔ ∃ n, t = some n ∧ n + 1 = limit := by
  rw [← Timer.expires_iff, ← mem_expiries_iff s.timers_commands hi]
  simp only [State.tick, hpending, List.nil_append]
  rfl

/-! ## The line in a tick -/

/-- A bit time reads SBS at the level SBD then has, or at 0 where that is 0. -/
theorem Bi.bitTime_line (b : Bi) (others : Bool) :
    (b.rx = .off → (b.bitTime others).sbs = b.sbs) ∧
    (b.rx ≠ .off → b.tx = .sending → (b.bitTime others).sbs = (b.bitTime others).sbd) ∧
    (b.rx ≠ .off → (b.bitTime others).sbd = false → (b.bitTime others).sbs = false) := by
  rw [Bi.bitTime_sbs]
  refine ⟨fun h => if_pos h, fun h htx => ?_, fun h hsbd => ?_⟩
  · rw [if_neg h, if_pos htx]
  · rw [if_neg h, hsbd]
    split <;> simp

/-! ## The step -/

/-- The step with nothing to take is one tick. -/
theorem step_of_idle {s : State} (hpending : s.pending = []) (hhanded : s.handed = []) : step s = .next s.tick := by
  unfold step
  rw [hpending, hhanded]

/-- The pins show what the blocks hold, the drive pins in a running node only. -/
theorem State.outputs_shown (s : State) :
    (s.nsc.node = .active ∨ s.nsc.node = .degraded → s.outputs.dren = s.drive.dren ∧ s.outputs.pwmo = s.drive.duty) ∧
    (s.nsc.node ≠ .active → s.nsc.node ≠ .degraded → s.outputs.dren = false ∧ s.outputs.pwmo = none) ∧
    (s.role ≠ .steer → s.outputs.bkc = s.bcu.driver) ∧ (s.role = .steer → s.outputs.bkc = false) := by
  refine ⟨?_, ?_, fun h => by simp [State.outputs, State.hasBcu, h], fun h => by simp [State.outputs, State.hasBcu, h]⟩
  · rintro (h | h) <;> simp [State.outputs, h, NodeState.running]
  · intro h h'
    have hrunning : s.nsc.node.running = false := by cases hn : s.nsc.node <;> simp_all [NodeState.running]
    simp [State.outputs, hrunning]

/-- The select pins show the sweep. -/
theorem Sweep.select_shown (w : Sweep) : (w.select = none ↔ w = .idle) ∧ (w.select = some 0 ↔ w = .running1) ∧
    (w.select = some 1 ↔ w = .running2) ∧ (w.select = some 2 ↔ w = .running3) := by
  cases w <;> simp [Sweep.select]

/-- Settles O1: the step by its definition, the tick by its timers and its bit time, the pins block by block. -/
theorem stepTakesFrontCommand : Obligations.StepTakesFrontCommand := by
  refine ⟨fun c rest s => rfl, fun c l s hp hh => by simp [step, hp, hh], fun s hp hh => ?_, fun s => ?_⟩
  · obtain ⟨hoff, hsending, hdominant⟩ := Bi.bitTime_line s.bi (Config.otherLevel s.free)
    refine ⟨s.tick, step_of_idle hp hh, rfl, fun n hn hlt => ⟨?_, ?_⟩, fun i t limit c hi => ⟨?_, ?_⟩, fun h => ?_,
      fun f h => ?_, hoff, hsending, hdominant, rfl⟩
    · simp [State.tick, Timer.bump, hn, hlt]
    · have hi : s.timers[0]? = some (s.le.periodTimer, s.prm.p * 1000, .periodExpiry) := rfl
      rw [State.tick_pending_iff hp hi, hn]
      simp
    · exact State.tick_pending_iff hp hi
    · rw [State.tick_timers, List.getElem?_map, hi]
      rfl
    · simp [State.tick, Bi.bitTime, h]
    · simp only [State.tick, Bi.bitTime, h, Option.map_some, InFlight.nextBit]
      split <;> rfl
  · obtain ⟨hrunning, hstopped, htilt, hsteer⟩ := s.outputs_shown
    obtain ⟨hnone, hfirst, hsecond, hthird⟩ := s.mu.sweep.select_shown
    exact ⟨hrunning, hstopped, htilt, hsteer, rfl, beq_iff_eq, hnone, hfirst, hsecond, hthird, beq_iff_eq, rfl⟩

/-! ## The two resets -/

/-- Settles O2: every block of the reset state is written out in `resetNode`; the brake follows the contacts. -/
theorem fullResetSetsEveryBlock : Obligations.FullResetSetsEveryBlock := by
  intro ads b1 b2 low s
  refine ⟨_, rfl, rfl, rfl, rfl, rfl, rfl, rfl, rfl, rfl, rfl, rfl, rfl, rfl, rfl, rfl, rfl, rfl, rfl, rfl, rfl, rfl, ?_, ?_⟩
  · intro h; exact ⟨if_pos h, if_pos h⟩
  · intro h; exact ⟨if_neg h, if_neg h⟩

/-- Settles O3: both are `resetNode`, which keeps the latches and the last HALT it is given. -/
theorem restartKeepsLatchesAndLastHalt : Obligations.RestartKeepsLatchesAndLastHalt := by
  intro s hpending hreport
  have hguard : (s.sr.restartPending && s.bi.slots.report.isNone) = true := by rw [hpending, hreport]; rfl
  exact ⟨restartNode s, _, congrArg Host.Outcome.next (if_pos hguard), rfl, rfl, fun c => CondSet.has_ofPred _ c⟩

/-- Settles O56: the reset state is off, empty and still, so that every relation reads one of its values. -/
theorem resetStateIsSound : Obligations.ResetStateIsSound := by
  have hreset : ResetOf State.reset State.reset := ⟨Pins.atReset, 0, none, rfl⟩
  refine ⟨?_, hreset.busFull.1, (Bcu.sound_iff _).2 (by decide), ⟨rfl, rfl, Nat.zero_le _⟩, hreset.busFull.2,
    hreset.nsc_sound.1, rfl, ?_, ⟨rfl, by simp [State.reset], Nat.zero_le _⟩, ?_⟩
  · simp [soundStack, State.reset, Le.reset]
  · simp [State.soundRejoin, State.reset, Nsc.reset]
  · simp [State.soundCounts, State.reset, Le.reset, Nsc.reset]

end Sys2Proof.Machine
end

section
/-! SUPPORT. The override stack at its events: the resolution of S6, the verdict on a request, the pops and marks of a release, the
release by motion, and the two internal pushes (R13, R28 to R41). -/

namespace Sys2Proof.Machine

/-! ## The resolution (R13) -/

/-- A LIMIT caps what stands below it. -/
theorem resolveStack_limit {free a : Int} {e : Entry} {l : List Entry} (hk : e.kind = .limit) (ha : e.angle = some a) :
    resolveStack free (e :: l) = clampMag a (resolveStack free l) := by
  simp [resolveStack, hk, ha]

/-- A clamp keeps the sign. -/
theorem clampMag_mul_nonneg {m x y : Int} (hm : 0 ≤ m) (h : 0 ≤ x * y) : 0 ≤ clampMag m x * y := by
  unfold clampMag
  rcases le_total 0 x with hx | hx
  · rcases hx.eq_or_lt with rfl | hx
    · have hzero : max (-m) (min m 0) = 0 := by omega
      simp [hzero]
    · have hy : 0 ≤ y := by by_contra hy; nlinarith
      exact mul_nonneg (by omega) hy
  · rcases hx.eq_or_lt with rfl | hx
    · have hzero : max (-m) (min m 0) = 0 := by omega
      simp [hzero]
    · have hy : y ≤ 0 := by by_contra hy; nlinarith
      exact mul_nonneg_of_nonpos_of_nonpos (by omega) hy

/-- A clamp leaves a magnitude as it was, or makes it the limit. -/
theorem clampMag_natAbs_eq {m : Int} (hm : 0 ≤ m) (x : Int) :
    (clampMag m x).natAbs = x.natAbs ∨ ((clampMag m x).natAbs : Int) = m := by
  unfold clampMag; omega

/-- LIMIT entries over a stack: the result is within each of them, and is the base or at one of them, on the side of the base. -/
theorem resolveStack_limits (free : Int) (limits rest : List Entry)
    (hlimits : ∀ e ∈ limits, e.kind = .limit ∧ ∃ a, e.angle = some a ∧ 0 ≤ a) :
    (∀ e ∈ limits, ∀ a, e.angle = some a → ((resolveStack free (limits ++ rest)).natAbs : Int) ≤ a) ∧
    ((resolveStack free (limits ++ rest)).natAbs = (resolveStack free rest).natAbs ∨
      ∃ e ∈ limits, e.angle = some ((resolveStack free (limits ++ rest)).natAbs : Int)) ∧
    (resolveStack free (limits ++ rest)).natAbs ≤ (resolveStack free rest).natAbs ∧
    0 ≤ resolveStack free (limits ++ rest) * resolveStack free rest := by
  induction limits with
  | nil => exact ⟨by simp, .inl rfl, le_rfl, mul_self_nonneg _⟩
  | cons e l ih =>
    obtain ⟨hkind, a, ha, hpos⟩ := hlimits e List.mem_cons_self
    obtain ⟨hcap, hreach, hless, hsign⟩ := ih fun x hx => hlimits x (List.mem_cons_of_mem _ hx)
    rw [List.cons_append, resolveStack_limit hkind ha]
    have hle := clampMag_natAbs_le (resolveStack free (l ++ rest)) hpos
    refine ⟨fun x hx b hb => ?_, ?_, hle.trans hless, clampMag_mul_nonneg hpos hsign⟩
    · rcases List.mem_cons.1 hx with rfl | hx
      · obtain rfl : a = b := by simpa using ha.symm.trans hb
        obtain ⟨n, rfl⟩ := Int.eq_ofNat_of_zero_le hpos
        exact_mod_cast clampMag_natAbs n _
      · have := hcap x hx b hb
        omega
    · rcases clampMag_natAbs_eq hpos (resolveStack free (l ++ rest)) with heq | heq
      · rw [heq]
        exact hreach.imp id fun ⟨x, hx, hb⟩ => ⟨x, List.mem_cons_of_mem _ hx, hb⟩
      · exact .inr ⟨e, List.mem_cons_self, by rw [heq]; exact ha⟩

/-- Settles O7: by induction on the LIMIT entries over the base. -/
theorem overrideResolution : Obligations.OverrideResolution := by
  intro free limits rest hlimits hrest
  obtain ⟨hcap, hreach, hless, hsign⟩ := resolveStack_limits free limits rest hlimits
  refine ⟨resolveStack free rest, fun h => by rw [h]; rfl, fun e he => ?_, hcap, hreach, hless, hsign⟩
  obtain ⟨l, rfl⟩ := List.head?_eq_some_iff.1 he
  refine ⟨fun hk => by simp [resolveStack, hk], fun a hk ha => ?_⟩
  rcases hk with hk | hk <;> simp [resolveStack, hk, ha]

/-! ## The verdict (R28 to R31) -/

/-- No entry with a tag. -/
theorem find?_tag_none {tag : Byte} {l : List Entry} : l.find? (fun e => e.tag == tag) = none ↔ ∀ e ∈ l, e.tag ≠ tag := by
  simp

/-- A free tag of a named kind goes to the push checks. -/
theorem State.judge_absent {s : State} {tag kind : Byte} {k : OverrideKind} (src : Addr) (role : Role) (angle count : Half)
    (h0 : tag ≠ 0) (hlt : tag.toNat < 240) (hkind : overrideOfByte kind = some k) (habsent : ∀ x ∈ s.le.stack, x.tag ≠ tag) :
    s.judge src role tag kind angle count = s.judgePush src role tag k angle count := by
  unfold State.judge
  rw [if_neg (not_or.2 ⟨h0, hlt.not_ge⟩), hkind]
  simp only [find?_tag_none.2 habsent]

/-- The count of a push: the one sent, or FOREVER for the 0 of a SERVICE station. -/
theorem settleCount_eq_some {role : Role} {count : Half} (h : count = 0 → role = .service) :
    settleCount role count = some (if count = 0 then .forever 0 else .finite count.toNat) := by
  unfold settleCount
  split
  next hc => rw [if_pos (h hc)]
  next => rfl

/-- The PARK's speed check (R31, R39). -/
theorem standstill_iff (p : Params) (v : Nat) (st : SpeedStatus) :
    standstill p v st = true ↔ st.heard = true ∧ v < p.vStand := by
  simp [standstill]

/-- The new entry of a push. -/
def State.pushed (s : State) (src : Addr) (tag : Byte) (k : OverrideKind) (angle count : Half) : Entry :=
  { tag := tag, kind := k, angle := s.pushAngle k angle
    count := if count = 0 then .forever 0 else .finite count.toNat, origin := some src, pending := false }

/-- A push that every check passes. -/
theorem State.judgePush_push {s : State} {role : Role} {k : OverrideKind} {count : Half} (src : Addr) (tag : Byte) (angle : Half)
    (hcount : count = 0 → role = .service)
    (hpark : k = .park → s.le.speed.status.heard = true ∧ s.le.speed.value < s.prm.vStand) (hroom : s.le.stack.length < 4) :
    s.judgePush src role tag k angle count = .push (s.pushed src tag k angle count) := by
  unfold State.judgePush
  rw [settleCount_eq_some hcount]
  have hstand : ¬(k = .park ∧ standstill s.prm s.le.speed.value s.le.speed.status = false) := by
    rintro ⟨hk, h⟩
    rw [(standstill_iff _ _ _).2 (hpark hk)] at h
    exact absurd h (by decide)
  simp only [if_neg hstand, if_neg (show ¬Config.stackCapacity ≤ s.le.stack.length by simp [Config.stackCapacity, hroom])]
  rfl

/-! ## A settled request -/

/-- An empty top or a new tag is a change of the top. -/
theorem topTag_push_ne {e : Entry} {l : List Entry} (h : ∀ x ∈ l, x.tag ≠ e.tag) : topTag (e :: l) ≠ topTag l := by
  cases l with
  | nil => simp [topTag]
  | cons x l => simpa [topTag] using (h x List.mem_cons_self).symm

/-- A push: the entry on the top, the top-change notice, and in DORMANT the wake cause. -/
theorem State.settleOverride_push_wake (s : State) (tag : Byte) (e : Entry) (h : ∀ x ∈ s.le.stack, x.tag ≠ e.tag) :
    ∃ dwell, (s.settleOverride tag (.push e)).wakeIfDormant = { s with
      le := { s.le with stack := e :: s.le.stack, lastRefusal := .accepted, dwell := dwell }
      handed := s.handed ++ s.topNotices (some ⟨e.tag, e.kind, e.angle⟩) ++
        if s.nsc.node = .dormant then [.wakeCauseReport] else [] } := by
  refine ⟨(s.setStack (e :: s.le.stack)).le.dwell, ?_⟩
  rw [State.wakeIfDormant_eq, State.settleOverride, State.setStack_eq, if_neg (topTag_push_ne h)]
  rfl

/-- A settled request leaves the dwell running as R39 says. -/
theorem State.settleOverride_dwellRuns (s : State) (tag : Byte) (v : Verdict) :
    dwellRuns s (s.settleOverride tag v).wakeIfDormant := by
  rw [State.wakeIfDormant_eq]
  cases v with
  | refuse r => exact ⟨fun _ => rfl, fun h => absurd rfl h⟩
  | refresh c => exact State.setStack_dwellRuns s _
  | push e => exact State.setStack_dwellRuns s _

/-- Settles O10: the checks of a push, then the push as one change of the stack. -/
theorem overridePushIsMade : Obligations.OverridePushIsMade := by
  refine ⟨fun s src role tag kind k angle count hlive h0 hlt hkind habsent hcount hpark hroom => ?_,
    fun s src role tag kind angle count hlive => ?_, fun s top => ?_⟩
  · have hexec := exec_overrideRequest_of_live src role tag kind angle count hlive
    rw [State.judge_absent src role angle count h0 hlt hkind habsent, State.judgePush_push src tag angle hcount hpark hroom]
      at hexec
    obtain ⟨dwell, hsettled⟩ := (s.taken (.overrideRequest src role tag kind angle count)).settleOverride_push_wake tag
      (s.pushed src tag k angle count) habsent
    refine ⟨_, s.pushed src tag k angle count, hexec.trans (congrArg _ hsettled), rfl, rfl, rfl, rfl, rfl,
      fun h => if_pos h, fun h => if_neg h, ?_, ?_, ?_, ?_, rfl, rfl⟩
    all_goals rintro rfl; rfl
  · exact ⟨_, exec_overrideRequest_of_live src role tag kind angle count hlive,
      (s.taken _).settleOverride_dwellRuns tag _⟩
  · unfold State.topNotices State.hasBcu
    by_cases h : s.role = .steer <;> simp [h]

/-! ## The refusals (R28 to R32) -/

/-- A reserved tag or an unnamed kind, or a tag that stands with another kind. -/
theorem State.judge_tagConflict {s : State} {tag kind : Byte} (src : Addr) (role : Role) (angle count : Half)
    (h : (tag = 0 ∨ 240 ≤ tag.toNat ∨ overrideOfByte kind = none) ∨
      ∃ e, s.le.stack.find? (fun x => x.tag == tag) = some e ∧ overrideOfByte kind ≠ some e.kind) :
    s.judge src role tag kind angle count = .refuse .tagConflict := by
  unfold State.judge
  split
  · rfl
  next hfree =>
    cases hk : overrideOfByte kind with
    | none => rfl
    | some k =>
      obtain ⟨e, hfind, hother⟩ := h.resolve_left (by rintro (h | h | h) <;> simp_all)
      have hne : e.kind ≠ k := fun he => hother (by rw [hk, he])
      simp only [hfind, ne_eq, hne, not_false_eq_true, if_true]

/-- A count of 0 that no SERVICE station sends. -/
theorem State.judge_countZero {s : State} {tag kind : Byte} {role : Role} (src : Addr) (angle : Half)
    (hfree : ¬(tag = 0 ∨ 240 ≤ tag.toNat ∨ overrideOfByte kind = none))
    (hsame : ¬∃ e, s.le.stack.find? (fun x => x.tag == tag) = some e ∧ overrideOfByte kind ≠ some e.kind)
    (hrole : role ≠ .service) : s.judge src role tag kind angle 0 = .refuse .countZero := by
  obtain ⟨h0, hlt, hkind⟩ := not_or.1 hfree |>.imp id not_or.1
  obtain ⟨k, hk⟩ := Option.ne_none_iff_exists'.1 hkind
  cases hfind : s.le.stack.find? (fun x => x.tag == tag) with
  | none =>
    rw [State.judge_absent src role angle 0 h0 (not_le.1 hlt) hk (find?_tag_none.1 hfind)]
    simp [State.judgePush, settleCount, hrole]
  | some e =>
    have he : overrideOfByte kind = some e.kind := by by_contra hne; exact hsame ⟨e, hfind, hne⟩
    rw [State.judge_standing src role angle 0 h0 (not_le.1 hlt) hfind he, refreshCount_zero_of_ne_service _ hrole]
    rfl

/-- A PARK while the body is not at standstill. -/
theorem State.judgePush_parkMoving {s : State} {role : Role} {count : Half} (src : Addr) (tag : Byte) (angle : Half)
    (hcount : count = 0 → role = .service) (hmoving : ¬(s.le.speed.status.heard = true ∧ s.le.speed.value < s.prm.vStand)) :
    s.judgePush src role tag .park angle count = .refuse .parkMoving := by
  unfold State.judgePush
  rw [settleCount_eq_some hcount]
  rw [← standstill_iff, Bool.not_eq_true] at hmoving
  simp [hmoving]

/-- A push on a full stack. -/
theorem State.judgePush_stackFull {s : State} {role : Role} {k : OverrideKind} {count : Half} (src : Addr) (tag : Byte)
    (angle : Half) (hcount : count = 0 → role = .service)
    (hstill : ¬(k = .park ∧ ¬(s.le.speed.status.heard = true ∧ s.le.speed.value < s.prm.vStand)))
    (hfull : 4 ≤ s.le.stack.length) : s.judgePush src role tag k angle count = .refuse .stackFull := by
  unfold State.judgePush
  rw [settleCount_eq_some hcount]
  rw [← standstill_iff, Bool.not_eq_true] at hstill
  simp only [if_neg hstill, if_pos (show Config.stackCapacity ≤ s.le.stack.length from hfull)]

/-- Settles O12: the four reasons, each the first check that fails. -/
theorem overrideRefusalsInOrder : Obligations.OverrideRefusalsInOrder := by
  intro s src role tag kind angle count r hlive hreason
  have hverdict : s.judge src role tag kind angle count = .refuse r := by
    rcases hreason with ⟨h, rfl⟩ | ⟨hfree, hsame, ⟨rfl, hrole⟩, rfl⟩ | ⟨hfree, habsent, hcount, hmoving, rfl⟩ |
      ⟨hfree, habsent, hcount, hstill, hfull, rfl⟩
    · exact State.judge_tagConflict src role angle count h
    · exact State.judge_countZero src angle hfree hsame hrole
    · obtain ⟨h0, hlt, -⟩ := not_or.1 hfree |>.imp id not_or.1
      rw [State.judge_absent src role angle count h0 (not_le.1 hlt) hmoving.1 habsent]
      exact State.judgePush_parkMoving src tag angle (by simpa using hcount) hmoving.2
    · obtain ⟨h0, hlt, hkind⟩ := not_or.1 hfree |>.imp id not_or.1
      obtain ⟨k, hk⟩ := Option.ne_none_iff_exists'.1 hkind
      rw [State.judge_absent src role angle count h0 (not_le.1 hlt) hk habsent]
      exact State.judgePush_stackFull src tag angle (by simpa using hcount) (by simpa [hk] using hstill) hfull
  have hexec := exec_overrideRequest_of_live src role tag kind angle count hlive
  rw [hverdict] at hexec
  exact ⟨_, hexec.trans (congrArg _ (State.settleOverride_refuse_wake _ tag r)), rfl⟩

/-! ## RELEASE (R33, R34) -/

/-- Tag 240 and an absent tag release nothing. -/
theorem releaseTag_ignored {tag : Byte} {l : List Entry} (h : tag = 240 ∨ ∀ e ∈ l, e.tag ≠ tag) : releaseTag tag l = l := by
  cases l with
  | nil => rfl
  | cons e rest =>
    rcases h with rfl | h
    · rfl
    · have hmark : rest.map (fun x => if x.tag = tag then { x with pending := true } else x) = rest := by
        refine (List.map_congr_left fun x hx => ?_).trans (List.map_id _)
        exact if_neg (h x (List.mem_cons_of_mem _ hx))
      simp [releaseTag, h e List.mem_cons_self, hmark]

/-- The top is popped with the marked entries that surface. -/
theorem releaseTag_top {e : Entry} {rest : List Entry} (h : e.tag ≠ 240) :
    releaseTag e.tag (e :: rest) = rest.dropWhile (fun x => x.pending) := by
  rw [← surface_eq_dropWhile]
  exact (if_neg h).trans (if_pos rfl)

/-- An entry below the top is marked. -/
theorem releaseTag_below {tag : Byte} {e : Entry} {rest : List Entry} (h : tag ≠ 240) (hne : e.tag ≠ tag) :
    releaseTag tag (e :: rest) = e :: rest.map (fun x => if x.tag = tag then { x with pending := true } else x) := by
  exact (if_neg h).trans (if_neg hne)

/-- Settles O13: the three cases of the release, and the change of the stack as one update. -/
theorem releaseRequestPopsOrMarks : Obligations.ReleaseRequestPopsOrMarks := by
  intro s src tag role hlive
  refine ⟨_, congrArg Host.Outcome.next (if_pos hlive), ?_⟩
  have hstack : ((s.taken (.releaseRequest src tag role)).setStack (releaseTag tag s.le.stack)).wakeIfDormant.le.stack =
      releaseTag tag s.le.stack := by rw [State.wakeIfDormant_eq]; exact State.setStack_stack _ _
  refine ⟨fun h => hstack.trans (releaseTag_ignored h), fun e rest h he ht => ?_, fun e rest h he ht => ?_, ?_, ?_, ?_⟩
  · subst ht; exact hstack.trans (by rw [he]; exact releaseTag_top h)
  · exact hstack.trans (by rw [he]; exact releaseTag_below h ht)
  · simp only [State.wakeIfDormant_eq, State.setStack_eq]
    rfl
  · rw [State.wakeIfDormant_eq]
    exact (s.taken _).setStack_dwellRuns _
  · rw [State.wakeIfDormant_eq, State.setStack_eq]
    rfl

/-! ## The internal pushes (R39, R41) -/

/-- There is room for an internal push exactly with fewer than four entries and none of its tag. -/
theorem State.roomFor_iff (s : State) (tag : Byte) :
    s.roomFor tag = true ↔ s.le.stack.length < 4 ∧ ∀ e ∈ s.le.stack, e.tag ≠ tag := by
  simp only [State.roomFor, hasTag, Bool.and_eq_true, decide_eq_true_eq, Bool.not_eq_true', List.any_eq_false, beq_iff_eq]
  rfl

/-- An internal push: the entry on the top with its notice; its dwell is that of the new stack. -/
theorem State.setStack_push {s : State} {e : Entry} (h : ∀ x ∈ s.le.stack, x.tag ≠ e.tag) :
    s.setStack (e :: s.le.stack) = { s with
      le := { s.le with stack := e :: s.le.stack, dwell := (s.setStack (e :: s.le.stack)).le.dwell }
      handed := s.handed ++ s.topNotices (some ⟨e.tag, e.kind, e.angle⟩) } := by
  rw [State.setStack_eq, if_neg (topTag_push_ne h)]
  rfl

/-- A stack with an entry of tag 240 or a PARK stops the dwell. -/
theorem State.setStack_dwell_stopped {s : State} {new : List Entry} (hne : new ≠ s.le.stack)
    (h : ∃ e ∈ new, e.kind = .park ∨ e.tag = 240) : (s.setStack new).le.dwell = none := by
  obtain ⟨hruns, -⟩ := (s.setStack_dwellRuns new).2 (by rwa [State.setStack_stack])
  rw [State.setStack_stack] at hruns
  obtain ⟨e, he, hpark⟩ := h
  rw [← Option.not_isSome_iff_eq_none, hruns]
  rintro ⟨-, -, hnone⟩
  rcases hpark with hk | ht
  · exact (hnone e he).1 hk
  · exact (hnone e he).2 ht

/-- Settles O15: the guard of the limit, the push that stops the dwell, and the full stack. -/
theorem autoLockPushesHold : Obligations.AutoLockPushesHold := by
  intro s n hn
  have hlimit : s.le.dwell.atLimit (s.prm.tStand * 1000) = decide (s.prm.tStand * 1000 ≤ n) := by rw [hn]; rfl
  refine ⟨fun h => ?_, fun h hroom habsent => ?_, fun h hfull => ?_⟩
  · exact congrArg Host.Outcome.next (if_pos (by simp [hlimit, h]))
  · refine ⟨_, congrArg Host.Outcome.next ?_, rfl⟩
    have hdwell := State.setStack_dwell_stopped (s := s) (new := s.internalEntry 240 .hold :: s.le.stack) (by simp)
      ⟨_, List.mem_cons_self, .inr rfl⟩
    have hpush := State.setStack_push (s := s) (e := s.internalEntry 240 .hold) habsent
    rw [hdwell] at hpush
    rw [if_neg (by simp [hlimit, h]), if_neg (by simpa [Config.stackCapacity] using hroom),
      if_pos ((s.roomFor_iff 240).2 ⟨hroom, habsent⟩), hpush]
    rfl
  · exact congrArg Host.Outcome.next ((if_neg (by simp [hlimit, h])).trans (if_pos hfull))

/-! ## A change of the stack, then the dwell (R39 to R41) -/

/-- A timer kept twice for one condition is kept once. -/
theorem Timer.keep_keep (t : Timer) (run : Bool) : Timer.keep (Timer.keep t run) run = Timer.keep t run := by
  cases run <;> rfl

/-- A state with another stack. -/
def State.withStack (s : State) (new : List Entry) : State := { s with le := { s.le with stack := new } }

/-- A change of the stack, or none, and then the dwell for the speed of the copy. -/
theorem State.setStack_evalDwell (s : State) (new : List Entry) :
    (s.setStack new).evalDwell s.le.speed.value s.le.speed.status = { s with
      le := { s.le with
        stack := new
        dwell := Timer.keep s.le.dwell ((s.withStack new).dwellHolds s.le.speed.value s.le.speed.status) }
      handed := s.handed ++ if topTag new = topTag s.le.stack then [] else s.topNotices (topView new) } := by
  have hdwell : Timer.keep (s.setStack new).le.dwell ((s.setStack new).dwellHolds s.le.speed.value s.le.speed.status) =
      Timer.keep s.le.dwell ((s.withStack new).dwellHolds s.le.speed.value s.le.speed.status) := by
    rw [State.setStack_eq]
    dsimp only
    split
    · rfl
    · exact Timer.keep_keep _ _
  rw [State.evalDwell, hdwell, State.setStack_eq]

/-- Such a dwell runs exactly under the three conditions, on from where it stood or from 0. -/
theorem State.setStack_evalDwell_runs (s : State) (new : List Entry) :
    let t := (s.setStack new).evalDwell s.le.speed.value s.le.speed.status
    (t.le.dwell.isSome = true ↔ (s.le.speed.status.heard = true ∧ s.le.speed.value < s.prm.vStand) ∧
      (s.nsc.node = .active ∨ s.nsc.node = .degraded ∨ s.nsc.node = .dormant) ∧ ∀ e ∈ new, e.kind ≠ .park ∧ e.tag ≠ 240) ∧
    ∀ n, t.le.dwell = some n → n = s.le.dwell.getD 0 := by
  obtain ⟨hruns, hvalue⟩ := Timer.keep_spec s.le.dwell
    ((s.withStack new).dwellHolds s.le.speed.value s.le.speed.status)
  rw [State.setStack_evalDwell]
  exact ⟨by rw [hruns, State.dwellHolds_iff]; rfl, hvalue⟩

/-- No change of the stack is a change to itself. -/
theorem State.setStack_self (s : State) : s.setStack s.le.stack = s := if_pos rfl

/-! ## The release by motion (R40) -/

/-- The motion predicate. -/
theorem motion_iff (p : Params) (v : Nat) (st : SpeedStatus) :
    motion p v st = true ↔ st.heard = true ∧ p.vUnlock < v := by
  simp [motion]

/-- A list whose top stays is marked as a whole. -/
theorem motionRelease_of_stays {l : List Entry} (h : ∀ e, l.head? = some e → e.movesOff = false) :
    motionRelease l = markMoving l := by
  cases l with
  | nil => rfl
  | cons e l => simp [motionRelease, markMoving, h e rfl]

/-- A list whose top goes is marked from the first entry on that neither goes nor is marked. -/
theorem motionRelease_of_goes {l : List Entry} {e : Entry} (hl : l.head? = some e) (h : e.movesOff = true) :
    motionRelease l = markMoving (l.dropWhile (fun x => x.movesOff || x.pending)) := by
  obtain ⟨rest, rfl⟩ := List.head?_eq_some_iff.1 hl
  have hdrop : (e :: rest).dropWhile (fun x => x.movesOff || x.pending) =
      rest.dropWhile (fun x => x.movesOff || x.pending) := by simp [h]
  have hhead := List.head?_dropWhile_not (fun x : Entry => x.movesOff || x.pending) rest
  rw [hdrop, motionRelease, if_pos h, motionSurface_eq]
  cases hrest : rest.dropWhile (fun x => x.movesOff || x.pending) with
  | nil => rfl
  | cons y m =>
    rw [hrest] at hhead
    have hy : y.movesOff = false := by
      simp only [List.head?_cons, Bool.or_eq_false_iff] at hhead
      exact hhead.1
    simp [markMoving, hy]

/-- The stack after a speed-status change (R40). -/
def State.motionStack (s : State) (v : Nat) (st : SpeedStatus) : List Entry :=
  if motion s.prm v st then motionRelease s.le.stack else s.le.stack

/-- A speed-status change at the LE: the copy, the stack after motion, the dwell. -/
theorem exec_speedStatusChangeLe_of_live {s : State} (v : Nat) (st : SpeedStatus) (h : s.nsc.node.live = true) :
    exec (.speedStatusChangeLe v st) s = .next ((((s.taken (.speedStatusChangeLe v st)).setLeSpeed v st).setStack
      (s.motionStack v st)).evalDwell v st) := by
  refine (congrArg Host.Outcome.next (if_pos h)).trans (congrArg (fun x => Host.Outcome.next (State.evalDwell x v st)) ?_)
  unfold State.motionStack
  cases hm : motion s.prm v st with
  | true => exact if_pos hm
  | false => exact (if_neg (by simp [hm])).trans (State.setStack_self _).symm

/-- Settles O16: the release by motion as one change of the stack, and the dwell for the speed handed over. -/
theorem motionReleasesParkedEntries : Obligations.MotionReleasesParkedEntries := by
  intro s v st hlive
  have hstate := ((s.taken (.speedStatusChangeLe v st)).setLeSpeed v st).setStack_evalDwell (s.motionStack v st)
  obtain ⟨hruns, hvalue⟩ :=
    ((s.taken (.speedStatusChangeLe v st)).setLeSpeed v st).setStack_evalDwell_runs (s.motionStack v st)
  rw [hstate] at hruns hvalue
  refine ⟨_, (exec_speedStatusChangeLe_of_live v st hlive).trans (congrArg _ hstate), rfl, ⟨fun e hm he hgoes => ?_,
    fun hm hstays => ?_, fun hm => ?_⟩, rfl, hruns, hvalue, rfl⟩
  · exact (if_pos ((motion_iff _ _ _).2 hm)).trans (motionRelease_of_goes he hgoes)
  · exact (if_pos ((motion_iff _ _ _).2 hm)).trans (motionRelease_of_stays hstays)
  · exact if_neg (by rwa [motion_iff])

/-! ## The start-PARK (R41) -/

/-- What a filter over the two tilt stations passes. -/
theorem State.mem_tiltRows {s : State} {f : Contrib → Freshness → Bool} {c : Contrib} :
    c ∈ s.tiltRows f ↔ ∃ k g, (k = .tiltA ∨ k = .tiltB) ∧ s.contribOf k = some (c, g) ∧ f c g = true := by
  simp only [State.tiltRows, List.mem_filterMap, List.mem_cons, List.not_mem_nil, or_false, Option.bind_eq_some_iff,
    Option.ite_none_right_eq_some, Option.some.injEq, Prod.exists]
  constructor
  · rintro ⟨k, hk, d, g, hd, hf, rfl⟩
    exact ⟨k, g, hk, hd, hf⟩
  · rintro ⟨k, g, hk, hd, hf⟩
    exact ⟨k, hk, c, g, hd, hf, rfl⟩

/-- The brake seen ENGAGED, in either role. -/
theorem State.brakeSeenEngaged_iff (s : State) : s.brakeSeenEngaged = true ↔
    (s.role ≠ .steer ∧ s.bcu.switch = .engaged) ∨
      (s.role = .steer ∧ ∃ k c, (k = .tiltA ∨ k = .tiltB) ∧ s.contribOf k = some (c, .fresh) ∧ c.switch = 0) := by
  unfold State.brakeSeenEngaged
  by_cases h : s.role = .steer
  · rw [if_pos h]
    have hne : ∀ l : List Contrib, (!l.isEmpty) = true ↔ ∃ c, c ∈ l := by
      intro l
      cases l <;> simp
    rw [hne]
    simp only [State.mem_tiltRows, h, ne_eq, not_true_eq_false, false_and, true_and, false_or, Bool.and_eq_true,
      beq_iff_eq]
    constructor
    · rintro ⟨c, k, g, hk, hc, rfl, hsw⟩
      exact ⟨k, c, hk, hc, hsw⟩
    · rintro ⟨k, c, hk, hc, hsw⟩
      exact ⟨c, k, .fresh, hk, hc, rfl, hsw⟩
  · rw [if_neg h]
    simp [h]

/-- The stack after a node-state change at the LE (R41). -/
def State.joinStack (s : State) (old new : NodeState) : List Entry :=
  if old = .listen ∧ new = .active ∧ s.brakeSeenEngaged = true ∧ s.roomFor 241 = true then
    s.internalEntry 241 .park :: s.le.stack
  else s.le.stack

/-- A node-state change at the LE: the stack after it, then the dwell. -/
theorem exec_nodeStateChangeLe (s : State) (old new : NodeState) : exec (.nodeStateChangeLe old new) s =
    .next (((s.taken (.nodeStateChangeLe old new)).setStack (s.joinStack old new)).evalDwell
      s.le.speed.value s.le.speed.status) := by
  refine congrArg (fun x => Host.Outcome.next (State.evalDwell x s.le.speed.value s.le.speed.status)) ?_
  unfold State.joinStack
  by_cases h : old = .listen ∧ new = .active ∧ s.brakeSeenEngaged = true ∧ s.roomFor 241 = true
  · rw [if_pos h]; exact if_pos h
  · rw [if_neg h]; exact (if_neg h).trans (State.setStack_self _).symm

/-- Settles O17: the start-PARK as one change of the stack, or none, and the dwell after it. -/
theorem joinPushesStartPark : Obligations.JoinPushesStartPark := by
  intro s old new
  have hstate := (s.taken (.nodeStateChangeLe old new)).setStack_evalDwell (s.joinStack old new)
  obtain ⟨hruns, hvalue⟩ := (s.taken (.nodeStateChangeLe old new)).setStack_evalDwell_runs (s.joinStack old new)
  rw [hstate] at hruns hvalue
  refine ⟨_, (exec_nodeStateChangeLe s old new).trans (congrArg _ hstate), ⟨s.brakeSeenEngaged_iff, ?_, ?_⟩, hruns, hvalue,
    rfl⟩
  · rintro ⟨hold, hnew, hseen, hroom, habsent⟩
    have hstack : s.joinStack old new = s.internalEntry 241 .park :: s.le.stack :=
      if_pos ⟨hold, hnew, s.brakeSeenEngaged_iff.2 hseen, (s.roomFor_iff 241).2 ⟨hroom, habsent⟩⟩
    refine ⟨hstack, ?_⟩
    simp only [hstack]
    exact congrArg (_ ++ ·) (if_neg (topTag_push_ne habsent))
  · intro h
    have hstack : s.joinStack old new = s.le.stack := if_neg fun ⟨hold, hnew, hseen, hroom⟩ =>
      h ⟨hold, hnew, s.brakeSeenEngaged_iff.1 hseen, (s.roomFor_iff 241).1 hroom⟩
    refine ⟨hstack, ?_⟩
    simp only [hstack]
    exact (congrArg (_ ++ ·) (if_pos rfl)).trans (List.append_nil _)

end Sys2Proof.Machine
end

section
/-! SUPPORT. The period expiry: the target it publishes, the two checks it runs, and the measured lean of either role (R4, R8 to
R17, R23, R42). -/

namespace Sys2Proof.Machine

/-! ## The targets (R15 to R20) -/

/-- A period expiry taken by an LE that runs. -/
theorem exec_periodExpiry_of_live {s : State} (h : s.nsc.node.live = true) : exec .periodExpiry s = .next s.periodExpiry :=
  congrArg Host.Outcome.next (if_pos h)

/-- The previous target of an expiry: reseeded at the first one in ACTIVE after LISTEN. -/
theorem State.prevTarget_cases (s : State) :
    (s.nsc.node = .active ∧ s.le.lastRun = some .listen → s.prevTarget = s.measuredClamped) ∧
    (¬(s.nsc.node = .active ∧ s.le.lastRun = some .listen) → s.prevTarget = s.le.prev) :=
  ⟨fun h => if_pos h, fun h => if_neg h⟩

/-- In a tracking state the target is the measured lean. -/
theorem State.leanTarget_of_tracking {s : State} (h : s.nsc.node.tracking = true) : s.leanTarget = s.measuredClamped :=
  if_pos h

/-- A slew from within an envelope toward a value within it stays within it. -/
theorem slew_within {m step prev x : Int} (hprev : (prev.natAbs : Int) ≤ m) (hstep : 0 ≤ step) :
    ((prev + clampMag step (clampMag m x - prev)).natAbs : Int) ≤ m := by
  unfold clampMag
  omega

/-- The target stays within the envelope. -/
theorem State.leanTarget_within {s : State} (h : s.prevTarget.natAbs ≤ s.prm.phiMax) : s.leanTarget.natAbs ≤ s.prm.phiMax := by
  cases ht : s.nsc.node.tracking with
  | true =>
    rw [State.leanTarget_of_tracking ht]
    exact clampMag_natAbs _ _
  | false =>
    rw [State.leanTarget_of_not_tracking ht]
    exact Int.ofNat_le.1 (slew_within (Int.ofNat_le.2 h) (Int.natCast_nonneg _))

/-- The fields of the LE after a period expiry. -/
theorem State.periodExpiry_fields (s : State) :
    s.periodExpiry.le.phiT = s.leanTarget ∧ s.periodExpiry.le.omegaT = s.rateTarget ∧
    s.periodExpiry.le.prev = s.leanTarget ∧ s.periodExpiry.le.lastRun = some s.nsc.node ∧
    s.periodExpiry.le.stack = advanceTop s.le.stack ∧ s.periodExpiry.le.lastRefusal = s.le.lastRefusal ∧
    s.periodExpiry.le.periodTimer = some 0 := by
  rw [State.periodExpiry_eq]
  exact ⟨rfl, rfl, rfl, rfl, rfl, rfl, rfl⟩

/-- A period expiry changes the LE and the hand-offs. -/
theorem State.periodExpiry_frame (s : State) :
    s.periodExpiry = { s with le := s.periodExpiry.le, handed := s.periodExpiry.handed } := by
  rw [State.periodExpiry_eq]

/-- A period expiry leaves the dwell running as R39 says. -/
theorem State.periodExpiry_dwellRuns (s : State) : dwellRuns s s.periodExpiry := by
  obtain ⟨hkept, hruns⟩ := s.setStack_dwellRuns (advanceTop s.le.stack)
  obtain ⟨hdwell, -⟩ := s.periodExpiry_dwell
  obtain ⟨-, -, -, -, hstack, -⟩ := s.periodExpiry_fields
  rw [State.setStack_stack] at hkept hruns
  refine ⟨?_, ?_⟩
  · rw [hdwell, hstack]; exact hkept
  · rw [hdwell, hstack]; exact hruns

/-! ## The hand-offs of an expiry -/

/-- What an expiry hands on before its reports. -/
def State.expiryNotices (s : State) : List Instr :=
  [.handlebarRampStep] ++
    (if topTag (advanceTop s.le.stack) = topTag s.le.stack then [] else s.topNotices (topView (advanceTop s.le.stack))) ++
    [s.recordNotice (targetRecord s.leanTarget s.rateTarget (advanceTop s.le.stack) s.le.lastRefusal)]

/-- The over-lean report of an expiry. -/
def State.leanReports (s : State) : List Instr :=
  if s.periodExpiry.le.overReported = s.le.overReported then []
  else [.conditionReport .overlean s.periodExpiry.le.overReported]

/-- Whether the summary after the advance differs from some compared peer's. -/
def State.expiryDiffers (s : State) : Bool :=
  s.summaryDiffers ((advanceTop s.le.stack).length, (topTag (advanceTop s.le.stack)).getD 0)

/-- The report of the stack comparison of an expiry. -/
def State.mismatchReports (s : State) : List Instr :=
  if s.nsc.node.running = true then
    if s.expiryDiffers = true then
      if s.le.mismatch = 49 then [.conditionReport .overrideMismatch true] else []
    else if s.le.mismatch = 50 then [.conditionReport .overrideMismatch false] else []
  else [.conditionReport .overrideMismatch false]

/-- The hand-offs of an expiry: the notices, the two reports, and last the period notice. -/
theorem State.periodExpiry_handed_parts (s : State) : s.periodExpiry.handed =
    s.handed ++ s.expiryNotices ++ s.leanReports ++ s.mismatchReports ++ [.periodNotice] := by
  rw [State.periodExpiry_handed]
  simp only [State.expiryNotices, State.leanReports, State.mismatchReports, List.append_assoc]
  rfl

/-- The notices hold no report. -/
theorem State.expiryNotices_no_report (s : State) (c : Condition) (b : Bool) : .conditionReport c b ∉ s.expiryNotices := by
  have htop : ∀ v, Instr.conditionReport c b ∉ s.topNotices v := by
    intro v
    unfold State.topNotices
    split <;> simp
  have hrecord : ∀ r, Instr.conditionReport c b ≠ s.recordNotice r := by
    intro r
    unfold State.recordNotice
    split <;> simp
  unfold State.expiryNotices
  split <;> simp [htop, hrecord]

/-- The reports are of OVERLEAN or of OVERRIDE_MISMATCH. -/
theorem State.expiryReports_conditions (s : State) : ∀ i ∈ s.leanReports ++ s.mismatchReports,
    ∃ c b, i = .conditionReport c b ∧ (c = .overlean ∨ c = .overrideMismatch) := by
  intro i hi
  rcases List.mem_append.1 hi with hi | hi
  · unfold State.leanReports at hi
    split at hi
    · simp at hi
    · exact ⟨_, _, List.mem_singleton.1 hi, .inl rfl⟩
  · unfold State.mismatchReports at hi
    repeat' split at hi
    all_goals first
      | exact ⟨_, _, List.mem_singleton.1 hi, .inr rfl⟩
      | simp at hi

/-! ## The measured lean (R4) -/

/-- The mean of the leans that two stations give, by which of them give one. -/
theorem meanFloor_two (f : Role → Option Contrib) :
    (∀ a b, f .tiltA = some a → f .tiltB = some b →
      meanFloor (([Role.tiltA, Role.tiltB].filterMap f).map (fun c => c.phiM.toInt)) =
        some ((a.phiM.toInt + b.phiM.toInt).fdiv 2)) ∧
    (∀ a, f .tiltA = some a → f .tiltB = none →
      meanFloor (([Role.tiltA, Role.tiltB].filterMap f).map (fun c => c.phiM.toInt)) = some a.phiM.toInt) ∧
    (∀ b, f .tiltB = some b → f .tiltA = none →
      meanFloor (([Role.tiltA, Role.tiltB].filterMap f).map (fun c => c.phiM.toInt)) = some b.phiM.toInt) ∧
    (f .tiltA = none → f .tiltB = none →
      meanFloor (([Role.tiltA, Role.tiltB].filterMap f).map (fun c => c.phiM.toInt)) = none) := by
  refine ⟨fun a b ha hb => ?_, fun a ha hb => ?_, fun b hb ha => ?_, fun ha hb => ?_⟩ <;> simp [ha, hb, meanFloor]

/-- The CONTRIB of a role where it is FRESH or AGING. -/
def State.heardRow (s : State) (k : Role) : Option Contrib :=
  (s.contribOf k).bind (fun q => if q.2.heard then some q.1 else none)

/-- The CONTRIB of a role that is heard. -/
theorem State.heardRow_iff {s : State} {k : Role} {c : Contrib} :
    s.heardRow k = some c ↔ ∃ f, s.contribOf k = some (c, f) ∧ f.heard = true := by
  simp only [State.heardRow, Option.bind_eq_some_iff, Option.ite_none_right_eq_some, Option.some.injEq, Prod.exists]
  constructor
  · rintro ⟨d, f, hd, hf, rfl⟩
    exact ⟨f, hd, hf⟩
  · rintro ⟨f, hd, hf⟩
    exact ⟨c, f, hd, hf, rfl⟩

/-- No CONTRIB of a role is heard. -/
theorem State.heardRow_none {s : State} {k : Role}
    (h : ∀ c, ¬∃ f, s.contribOf k = some (c, f) ∧ f.heard = true) : s.heardRow k = none :=
  Option.eq_none_iff_forall_ne_some.2 fun c hc => h c (State.heardRow_iff.1 hc)

/-- The measured lean of the STEER role is the mean of the leans heard. -/
theorem State.measured_of_steer {s : State} (h : s.role = .steer) :
    s.measured = meanFloor (([Role.tiltA, Role.tiltB].filterMap s.heardRow).map (fun c => c.phiM.toInt)) := if_pos h

/-- Settles O8: the expiry as one update of the LE, the stages by their definitions, and the measured lean by which tilt rows are
heard. -/
theorem periodExpiryPublishesTheTarget : Obligations.PeriodExpiryPublishesTheTarget := by
  refine ⟨fun s hlive => ?_, fun s => ?_, fun s => ?_⟩
  · obtain ⟨hphi, homega, hprev, hlast, hstack, hrefusal, htimer⟩ := s.periodExpiry_fields
    refine ⟨s.periodExpiry, s.prevTarget, exec_periodExpiry_of_live hlive, s.prevTarget_cases.1, s.prevTarget_cases.2,
      fun h => hphi.trans (State.leanTarget_of_tracking h), fun h => hphi.trans (State.leanTarget_of_not_tracking h),
      fun h => ?_, fun h => by rw [hphi]; exact State.leanTarget_within h, by rw [homega, hphi]; rfl, by rw [hprev, hphi],
      hlast, hstack, hrefusal, htimer, ⟨s.leanReports ++ s.mismatchReports, ?_, s.expiryReports_conditions⟩,
      s.periodExpiry_dwellRuns, s.periodExpiry_dwell.2, s.periodExpiry_frame⟩
    · rw [hphi, State.leanTarget_of_not_tracking h, State.s8, add_sub_cancel_left]
      exact clampMag_natAbs _ _
    · rw [hphi, homega, hstack, hrefusal, State.periodExpiry_handed_parts]
      simp only [State.expiryNotices, List.append_assoc]
      rfl
  · refine ⟨rfl, rfl, rfl, fun h => ?_, fun h => ?_, fun h => ?_⟩
    · rw [State.s4, Int.sign_eq_one_of_pos h, one_mul]
    · rw [State.s4, h, Int.sign_zero, zero_mul]
    · rw [State.s4, Int.sign_eq_neg_one_of_neg h, neg_one_mul]
  · refine ⟨fun h => if_neg h, fun h => ?_, rfl⟩
    obtain ⟨hboth, hfirst, hsecond, hneither⟩ := meanFloor_two s.heardRow
    rw [State.measured_of_steer h]
    exact ⟨fun a b ha hb => hboth a b (State.heardRow_iff.2 ha) (State.heardRow_iff.2 hb),
      fun a ha hb => hfirst a (State.heardRow_iff.2 ha) (State.heardRow_none hb),
      fun b hb ha => hsecond b (State.heardRow_iff.2 hb) (State.heardRow_none ha),
      fun ha hb => hneither (State.heardRow_none ha) (State.heardRow_none hb)⟩

/-! ## The two checks (R23, R42) -/

/-- The state of an expiry whose record has been handed on, before the checks. -/
def State.afterRecord (s : State) : State :=
  (((s.hand [.handlebarRampStep]).setStack (advanceTop s.le.stack)).publish s.leanTarget s.rateTarget).hand
    [s.recordNotice (targetRecord s.leanTarget s.rateTarget ((s.hand [.handlebarRampStep]).setStack (advanceTop s.le.stack)).le.stack
      ((s.hand [.handlebarRampStep]).setStack (advanceTop s.le.stack)).le.lastRefusal)]

/-- The checks of an expiry read the blocks as they stood, and the counts that the last one left. -/
theorem State.afterRecord_reads (s : State) :
    s.afterRecord.role = s.role ∧ s.afterRecord.mu = s.mu ∧ s.afterRecord.prm = s.prm ∧
    s.afterRecord.le.overCount = s.le.overCount ∧ s.afterRecord.le.overReported = s.le.overReported ∧
    s.afterRecord.le.countedStamp = s.le.countedStamp := by
  unfold State.afterRecord
  rw [State.setStack_eq]
  exact ⟨rfl, rfl, rfl, rfl, rfl, rfl⟩

/-- The counts of an expiry are those of its checks on the state after the record. -/
theorem State.periodExpiry_counts_eq (s : State) :
    s.periodExpiry.le.overCount = s.afterRecord.overLean.le.overCount ∧
    s.periodExpiry.le.overReported = s.afterRecord.overLean.le.overReported ∧
    s.periodExpiry.le.countedStamp = s.afterRecord.overLean.le.countedStamp := by
  unfold State.periodExpiry
  dsimp only
  rw [State.compareStacks_eq]
  exact ⟨rfl, rfl, rfl⟩

/-- A GOOD reading not yet counted is counted. -/
theorem State.overLean_counted {u : State} {phi : Int} (htilt : u.role.isTilt = true)
    (hgood : u.mu.records.shaft.state = .good) (hphi : u.mu.records.shaft.lastGood = some phi)
    (hnew : u.le.countedStamp ≠ some u.mu.records.shaft.stamp) :
    u.overLean = u.countOverLean phi u.mu.records.shaft.stamp := by
  unfold State.overLean
  simp only [htilt, hgood, hphi, if_neg hnew]

/-- Any other reading is not. -/
theorem State.overLean_skipped {u : State} (h : u.role.isTilt = false ∨ u.mu.records.shaft.state ≠ .good ∨
    u.mu.records.shaft.lastGood = none ∨ u.le.countedStamp = some u.mu.records.shaft.stamp) : u.overLean = u := by
  unfold State.overLean
  dsimp only
  split
  next htilt hgood hphi =>
    exact if_pos (by simpa [htilt, hgood, hphi] using h)
  · rfl

/-- A reading beyond φ_stop. -/
theorem State.countOverLean_beyond {u : State} {phi : Int} (h : u.prm.phiStop < phi.natAbs) (st : Stamp) :
    (u.countOverLean phi st).le.overCount = min (u.le.overCount + 1) 3 ∧
    (u.countOverLean phi st).le.overReported = (u.le.overReported || min (u.le.overCount + 1) 3 == 3) ∧
    (u.countOverLean phi st).le.countedStamp = some st := by
  unfold State.countOverLean
  rw [if_pos (Int.ofNat_lt.2 h)]
  dsimp only
  split <;> exact ⟨rfl, rfl, rfl⟩

/-- A reading within φ_stop. -/
theorem State.countOverLean_within {u : State} {phi : Int} (h : phi.natAbs ≤ u.prm.phiStop) (st : Stamp) :
    (u.countOverLean phi st).le.overCount = 0 ∧ (u.countOverLean phi st).le.overReported = false ∧
    (u.countOverLean phi st).le.countedStamp = some st := by
  unfold State.countOverLean
  rw [if_neg (not_lt.2 (Int.ofNat_le.2 h))]
  dsimp only
  split <;> exact ⟨rfl, rfl, rfl⟩

/-- A compared peer: FRESH and running. -/
theorem State.peerSummary_iff {s : State} {a : Nat} {q : Nat × Byte} : s.peerSummary a = some q ↔
    ∃ c, s.contribAt a = some (c, .fresh) ∧ c.running = true ∧ (c.depth.toNat, c.topTag) = q := by
  simp only [State.peerSummary, Option.bind_eq_some_iff, Option.ite_none_right_eq_some, Option.some.injEq, Prod.exists]
  constructor
  · rintro ⟨c, f, hc, ⟨rfl, hr⟩, hq⟩
    exact ⟨c, hc, hr, hq⟩
  · rintro ⟨c, hc, hr, hq⟩
    exact ⟨c, .fresh, hc, ⟨rfl, hr⟩, hq⟩

/-- Some compared peer shows another summary. -/
theorem State.summaryDiffers_iff (s : State) (own : Nat × Byte) : s.summaryDiffers own = true ↔
    ∃ a ∈ s.peers, ∃ c, s.contribAt a = some (c, .fresh) ∧ c.running = true ∧ (c.depth.toNat, c.topTag) ≠ own := by
  have hpeer : ∀ a, (match s.peerSummary a with | some q => q != own | none => false) = true ↔
      ∃ c, s.contribAt a = some (c, .fresh) ∧ c.running = true ∧ (c.depth.toNat, c.topTag) ≠ own := by
    intro a
    constructor
    · intro h
      split at h
      next q hq =>
        obtain ⟨c, hc, hr, rfl⟩ := State.peerSummary_iff.1 hq
        exact ⟨c, hc, hr, by simpa using h⟩
      next => simp at h
    · rintro ⟨c, hc, hr, hne⟩
      rw [State.peerSummary_iff.2 ⟨c, hc, hr, rfl⟩]
      simpa using hne
  unfold State.summaryDiffers
  rw [List.any_eq_true]
  exact ⟨fun ⟨a, ha, h⟩ => ⟨a, ha, (hpeer a).1 h⟩, fun ⟨a, ha, h⟩ => ⟨a, ha, (hpeer a).2 h⟩⟩

/-- The mismatch counter after an expiry. -/
theorem State.periodExpiry_mismatch (s : State) : s.periodExpiry.le.mismatch =
    if s.nsc.node.running && s.expiryDiffers then min (s.le.mismatch + 1) 50 else 0 := by
  unfold State.periodExpiry State.expiryDiffers
  dsimp only
  rw [State.compareStacks_eq, State.overLean_eq, State.setStack_eq]
  rfl

/-- The over-lean check of an expiry that counts a reading. -/
theorem State.periodExpiry_counted {s : State} {phi : Int} (htilt : s.role.isTilt = true)
    (hgood : s.mu.records.shaft.state = .good) (hphi : s.mu.records.shaft.lastGood = some phi)
    (hnew : s.le.countedStamp ≠ some s.mu.records.shaft.stamp) :
    s.periodExpiry.le.countedStamp = some s.mu.records.shaft.stamp ∧
    (s.prm.phiStop < phi.natAbs → s.periodExpiry.le.overCount = min (s.le.overCount + 1) 3 ∧
      s.periodExpiry.le.overReported = (s.le.overReported || s.periodExpiry.le.overCount == 3)) ∧
    (phi.natAbs ≤ s.prm.phiStop → s.periodExpiry.le.overCount = 0 ∧ s.periodExpiry.le.overReported = false) := by
  obtain ⟨hcount, hreported, hstamp⟩ := s.periodExpiry_counts_eq
  obtain ⟨hrole, hmu, hprm, hover, hflag, hcounted⟩ := s.afterRecord_reads
  have hcheck := State.overLean_counted (u := s.afterRecord) (by rw [hrole]; exact htilt) (by rw [hmu]; exact hgood)
    (by rw [hmu]; exact hphi) (by rw [hcounted, hmu]; exact hnew)
  rw [hmu] at hcheck
  rw [hcount, hreported, hstamp, hcheck, ← hprm, ← hover, ← hflag]
  have hbeyond := fun h => State.countOverLean_beyond (u := s.afterRecord) (phi := phi) h s.mu.records.shaft.stamp
  have hwithin := fun h => State.countOverLean_within (u := s.afterRecord) (phi := phi) h s.mu.records.shaft.stamp
  refine ⟨?_, fun h => ?_, fun h => ⟨(hwithin h).1, (hwithin h).2.1⟩⟩
  · rcases lt_or_ge s.afterRecord.prm.phiStop phi.natAbs with h | h
    · exact (hbeyond h).2.2
    · exact (hwithin h).2.2
  · obtain ⟨hc, hr, -⟩ := hbeyond h
    exact ⟨hc, by rw [hr, hc]⟩

/-- The over-lean check of an expiry that counts none. -/
theorem State.periodExpiry_skipped {s : State} (h : s.role.isTilt = false ∨ s.mu.records.shaft.state ≠ .good ∨
    s.mu.records.shaft.lastGood = none ∨ s.le.countedStamp = some s.mu.records.shaft.stamp) :
    s.periodExpiry.le.overCount = s.le.overCount ∧ s.periodExpiry.le.overReported = s.le.overReported ∧
      s.periodExpiry.le.countedStamp = s.le.countedStamp := by
  obtain ⟨hcount, hreported, hstamp⟩ := s.periodExpiry_counts_eq
  obtain ⟨hrole, hmu, -, hover, hflag, hcounted⟩ := s.afterRecord_reads
  rw [hcount, hreported, hstamp, State.overLean_skipped (by rw [hrole, hmu, hcounted]; exact h)]
  exact ⟨hover, hflag, hcounted⟩

/-- Settles O9: the hand-offs in their parts, the over-lean check by whether the reading is counted, the comparison by whether some
peer differs. -/
theorem periodExpiryRunsItsChecks : Obligations.PeriodExpiryRunsItsChecks := by
  intro s hlive
  have hstack := s.periodExpiry_fields.2.2.2.2.1
  refine ⟨s.periodExpiry, s.expiryNotices, s.leanReports, s.mismatchReports, exec_periodExpiry_of_live hlive,
    s.periodExpiry_handed_parts, s.expiryNotices_no_report, fun phi htilt hgood hphi hnew => ?_, fun h => ?_,
    fun hrun hdiff => ?_, fun hrun hsame => ?_, fun hrun => ?_⟩
  · obtain ⟨hstamp, hbeyond, hwithin⟩ := State.periodExpiry_counted htilt hgood hphi hnew
    refine ⟨hstamp, fun h => ?_, fun h => ?_⟩
    · obtain ⟨hcount, hreported⟩ := hbeyond h
      refine ⟨hcount, hreported, ?_⟩
      unfold State.leanReports
      rw [hreported]
      by_cases h3 : s.periodExpiry.le.overCount = 3 <;> cases s.le.overReported <;> simp [h3]
    · obtain ⟨hcount, hreported⟩ := hwithin h
      refine ⟨hcount, hreported, ?_⟩
      unfold State.leanReports
      rw [hreported]
      cases s.le.overReported <;> simp
  · obtain ⟨hcount, hreported, hstamp⟩ := State.periodExpiry_skipped h
    exact ⟨hcount, hreported, hstamp, if_pos hreported⟩
  · have hd : s.expiryDiffers = true := (s.summaryDiffers_iff _).2 (by rw [hstack] at hdiff; exact hdiff)
    rw [State.periodExpiry_mismatch, State.mismatchReports, hrun, hd]
    exact ⟨rfl, rfl⟩
  · have hd : s.expiryDiffers = false := by
      rw [← Bool.not_eq_true, State.expiryDiffers, State.summaryDiffers_iff]
      rintro ⟨a, ha, c, hc, hr, hne⟩
      rw [hstack] at hsame
      exact hne (hsame a ha c hc hr)
    rw [State.periodExpiry_mismatch, State.mismatchReports, hrun, hd]
    exact ⟨rfl, rfl⟩
  · rw [State.periodExpiry_mismatch, State.mismatchReports, hrun]
    exact ⟨rfl, rfl⟩

end Sys2Proof.Machine
end

section
/-! SUPPORT. The moves of the brake at its own events: the switch, the timer expiries, the demand and the sweep notice. -/

namespace Sys2Proof.Machine

/-! ## The switch (R73) -/

/-- What a new switch leaves as it was. -/
theorem Bcu.onSwitch_eq (b : Bcu) (sw : Switch) : b.onSwitch sw =
    { b with state := (b.onSwitch sw).state, driver := (b.onSwitch sw).driver, timer := (b.onSwitch sw).timer, switch := sw } := by
  unfold Bcu.onSwitch Bcu.switchMove
  split
  case h_1 | h_2 => unfold Bcu.toReleasing; split <;> rfl
  case h_5 | h_6 | h_8 => unfold Bcu.toEngaging; split <;> rfl
  all_goals rfl

/-- Settles O25: the rows of R73's table, each a case of the brake state and the new switch. -/
theorem switchChangeMovesTheBrake : Obligations.SwitchChangeMovesTheBrake := by
  intro s b1 b2 hbcu
  by_cases hsame : switchOf b1 b2 = s.bcu.switch
  · refine ⟨_, congrArg Host.Outcome.next (if_neg fun h => h.2 hsame), hsame.symm, rfl, ⟨fun _ => rfl, fun h => absurd hsame h⟩, rfl⟩
  · have hexec : exec (.switchChange b1 b2) s = .next { s with
        pins := { s.pins with bks1Closed := b1, bks2Closed := b2 }, bcu := s.bcu.onSwitch (switchOf b1 b2) } :=
      congrArg Host.Outcome.next (if_pos ⟨hbcu, hsame⟩)
    have hkept := s.bcu.onSwitch_eq (switchOf b1 b2)
    have hswitch : (s.bcu.onSwitch (switchOf b1 b2)).switch = switchOf b1 b2 := congrArg Bcu.switch hkept
    have hdemand : (s.bcu.onSwitch (switchOf b1 b2)).demand = s.bcu.demand := by rw [hkept]
    refine ⟨_, hexec, hswitch, hdemand, ⟨fun h => absurd h hsame, fun _ => ?_⟩, ?_⟩
    case refine_2 =>
      rw [hswitch]
      exact congrArg (fun b => { s with pins := { s.pins with bks1Closed := b1, bks2Closed := b2 }, bcu := b }) hkept
    dsimp only
    generalize switchOf b1 b2 = sw
    obtain ⟨st, driver, old, demand, timer, invalidRun, agreeRun, topCopy⟩ := s.bcu
    cases st <;> cases sw <;> simp [Bcu.onSwitch, Bcu.switchMove, Bcu.toReleasing, Bcu.toEngaging]

/-! ## The timer expiries (R74, R75) -/

/-- The brake timer has run a limit when it runs toward it and has reached it. -/
theorem Bcu.expired_of_timer {b : Bcu} {l : BrakeLimit} {n : Nat} (h : b.timer = some (l, n)) : b.expired l = decide (l.us ≤ n) := by
  simp [Bcu.expired, h]

/-- T_BRAKE_EXPIRY on a timer that has run T_brake. -/
theorem exec_tBrakeExpiry {s : State} {n : Nat} (hbcu : s.hasBcu = true) (ht : s.bcu.timer = some (.brake, n)) (hn : 300000 ≤ n) :
    exec .tBrakeExpiry s = .next (match s.bcu.state with
      | .engaging => s.engagingExpiry
      | .releasing => s.releasingExpiry
      | _ => s) := by
  refine congrArg Host.Outcome.next (if_pos ?_)
  rw [hbcu, Bcu.expired_of_timer ht]
  exact decide_eq_true hn

/-- The partner flag of a chain that has no image is UNKNOWN. -/
theorem State.partnerFlag_of_not_good {s : State} (h : s.cl.phase ≠ .good) : s.partnerFlag = .unknown := if_pos h

/-- The partner flag of a chain with an image, by the partner's row. -/
theorem State.partnerFlag_of_good {s : State} (h : s.cl.phase = .good) : s.partnerFlag =
    match s.partner with
    | none => .off
    | some a =>
      match s.contribAt a with
      | some (c, f) => if f = .fresh then (if c.driver then .on else .off) else .unknown
      | none => .unknown := if_neg (fun hn => hn h)

/-- Settles O26: the rows of R74 and R75 by state and switch, and the partner flag by the partner's row. -/
theorem brakeTimerExpiries : Obligations.BrakeTimerExpiries := by
  refine ⟨?_, ?_, ?_, ?_, ?_⟩
  · intro s n hbcu ht hn hstate
    rw [exec_tBrakeExpiry hbcu ht hn]
    obtain ⟨hst, hsw⟩ | ⟨hst, hsw⟩ := hstate
    · simp only [hst]
      unfold State.engagingExpiry
      refine ⟨?_, ?_, ?_⟩ <;> (split <;> simp_all [State.enterStuck, State.setBcu, State.hand, Bcu.toStuck, Bcu.waitAgain])
    · simp only [hst]
      unfold State.releasingExpiry
      refine ⟨?_, ?_, ?_⟩ <;> (split <;> simp_all [State.enterStuck, State.setBcu, State.hand, Bcu.toStuck, Bcu.waitAgain])
  · intro s n ht hn
    refine congrArg Host.Outcome.next (if_neg ?_)
    rw [Bcu.expired_of_timer ht, decide_eq_false (show ¬BrakeLimit.brake.us ≤ n from Nat.not_le.2 hn), Bool.and_false]
    exact Bool.false_ne_true
  · intro s n hbcu ht hn hst
    have hexec : exec .tPreloadExpiry s = .next (s.setBcu s.bcu.toReleasing) := by
      refine congrArg Host.Outcome.next (if_pos ?_)
      rw [hbcu, Bcu.expired_of_timer ht, hst, decide_eq_true (show BrakeLimit.preload.us ≤ n from hn)]
      rfl
    rw [hexec]
    exact ⟨fun hsw => congrArg (fun b => Host.Outcome.next (s.setBcu b)) (if_pos hsw),
      fun hsw => congrArg (fun b => Host.Outcome.next (s.setBcu b)) (if_neg hsw)⟩
  · intro s n ht hn
    refine congrArg Host.Outcome.next (if_neg ?_)
    rw [Bcu.expired_of_timer ht, decide_eq_false (show ¬BrakeLimit.preload.us ≤ n from Nat.not_le.2 hn), Bool.and_false, Bool.false_and]
    exact Bool.false_ne_true
  · intro s
    by_cases hgood : s.cl.phase = .good
    · rw [State.partnerFlag_of_good hgood]
      cases hp : s.partner with
      | none => simp [hgood]
      | some a =>
        cases hc : s.contribAt a with
        | none => simp [hgood, hc]
        | some q =>
          obtain ⟨c, f⟩ := q
          cases f <;> cases hd : c.driver <;> simp [hgood, hc, hd]
    · rw [State.partnerFlag_of_not_good hgood]
      simp [hgood]

/-! ## The own demand (R70 to R72) -/

/-- What an evaluation of the own demand makes of the brake (R71, R72). -/
def Bcu.MovedByDemand (b t : Bcu) : Prop :=
  (t.demand = b.demand → t = b) ∧
  (b.demand = true → t.demand = false →
    (b.state.wanted = true → b.switch = .engaged → t.state = .engaged ∧ t.driver = false ∧ t.timer = none) ∧
    (b.state.wanted = true → b.switch ≠ .engaged → t.state = .engaging ∧ t.driver = false ∧ t.timer = some (.brake, 0)) ∧
    (b.state = .stuck → t.state = .stuck ∧ t.driver = false)) ∧
  (b.demand = false → t.demand = true →
    (b.state = .engaged → t.state = .preload ∧ t.driver = false ∧ t.timer = some (.preload, 0)) ∧
    (b.state = .engaging ∨ b.state = .heldOff → t.driver = true ∧
      (b.switch = .released → t.state = .released ∧ t.timer = none) ∧
      (b.switch ≠ .released → t.state = .releasing ∧ t.timer = some (.brake, 0))) ∧
    (b.state = .stuck → t.state = .stuck ∧ t.driver = true)) ∧
  t.switch = b.switch ∧ t.invalidRun = b.invalidRun ∧ t.agreeRun = b.agreeRun ∧ t.topCopy = b.topCopy

/-- An unchanged demand leaves the whole state. -/
theorem State.evalDemand_same {s : State} (h : s.ownDemand = s.bcu.demand) : s.evalDemand = s := if_pos h

/-- A changed demand moves the brake. -/
theorem State.evalDemand_changed {s : State} (h : s.ownDemand ≠ s.bcu.demand) :
    s.evalDemand = s.setBcu (if s.ownDemand then s.bcu.demandOn else s.bcu.demandOff) := if_neg h

theorem Bcu.demandOff_moved {b : Bcu} (hd : b.demand = true) : b.MovedByDemand b.demandOff := by
  obtain ⟨st, driver, sw, demand, timer, invalidRun, agreeRun, topCopy⟩ := b
  cases hd
  cases st <;> by_cases hsw : sw = .engaged <;>
    simp [Bcu.MovedByDemand, Bcu.demandOff, Bcu.toEngaging, BrakeState.wanted, hsw]

theorem Bcu.demandOn_moved {b : Bcu} (hd : b.demand = false) : b.MovedByDemand b.demandOn := by
  obtain ⟨st, driver, sw, demand, timer, invalidRun, agreeRun, topCopy⟩ := b
  cases hd
  cases st <;> by_cases hsw : sw = .released <;>
    simp [Bcu.MovedByDemand, Bcu.demandOn, Bcu.toReleasing, Bcu.toPreload, hsw]

theorem State.evalDemand_moved (s : State) : s.bcu.MovedByDemand s.evalDemand.bcu := by
  by_cases hsame : s.ownDemand = s.bcu.demand
  · rw [State.evalDemand_same hsame]
    exact ⟨fun _ => rfl, fun h h' => absurd (h.symm.trans h') (by decide), fun h h' => absurd (h.symm.trans h') (by decide),
      rfl, rfl, rfl, rfl⟩
  · rw [State.evalDemand_changed hsame]
    cases hown : s.ownDemand
    · exact Bcu.demandOff_moved (by simpa [hown] using hsame)
    · exact Bcu.demandOn_moved (by simpa [hown] using hsame)

/-- The own demand reads nothing that its evaluation changes. -/
theorem State.evalDemand_ownDemand (s : State) : s.evalDemand.ownDemand = s.ownDemand := by
  obtain ⟨-, -, -, -, -, -, htop⟩ := s.evalDemand_moved
  rw [s.evalDemand_eq]
  unfold State.ownDemand State.parkSettled
  rw [htop]

/-- What settles a parked body in a running node (R70). -/
theorem State.parkSettled_iff (s : State) : s.parkSettled = true ↔ ∃ angle phi om, s.bcu.topCopy = some (.park, angle) ∧
    s.mu.records.shaft.lastGood = some phi ∧ s.mu.records.rate.lastGood = some om ∧
    (phi - angle.getD 0).natAbs ≤ s.prm.tolPark ∧ om.natAbs ≤ s.prm.omegaPark ∧
    s.pvu.speedStatus.heard = true ∧ s.pvu.speed < s.prm.vStand := by
  unfold State.parkSettled
  split
  next angle phi om htop hphi hom =>
    simp only [htop, hphi, hom, Bool.and_eq_true, decide_eq_true_eq, and_assoc]
    constructor
    · exact fun h => ⟨angle, phi, om, rfl, rfl, rfl, h⟩
    · rintro ⟨angle, phi, om, ⟨⟩, ⟨⟩, ⟨⟩, h⟩
      exact h
  next hno =>
    refine iff_of_false Bool.false_ne_true ?_
    rintro ⟨angle, phi, om, htop, hphi, hom, -⟩
    exact hno angle phi om htop hphi hom

/-- Settles O27: the three events are the taking of a hand-off, the top copy where there is one, and one evaluation. -/
theorem demandIsEvaluatedAfresh : Obligations.DemandIsEvaluatedAfresh := by
  refine ⟨?_, ?_⟩
  · intro s c hbcu hc
    have hown (u : State) : u.evalDemand.bcu.demand = u.evalDemand.ownDemand := by
      rw [State.evalDemand_demand, State.evalDemand_ownDemand]
    obtain ⟨v, st, rfl⟩ | ⟨old, new, rfl⟩ | ⟨top, rfl⟩ := hc
    case inl =>
      obtain ⟨hsame, hoff, hon, hsw, hinv, hagr, htop⟩ := (s.taken (.speedStatusChangeBcu v st)).evalDemand_moved
      refine ⟨_, congrArg Host.Outcome.next (if_pos hbcu), hown _, fun _ h => Instr.noConfusion h, fun _ => htop, ?_, hoff, hon,
        hsw, hinv, hagr, State.evalDemand_eq _⟩
      exact fun h => (hsame h).trans (congrArg (fun x => { s.bcu with topCopy := x }) htop.symm)
    case inr.inl =>
      obtain ⟨hsame, hoff, hon, hsw, hinv, hagr, htop⟩ := (s.taken (.nodeStateChangeBcu old new)).evalDemand_moved
      refine ⟨_, congrArg Host.Outcome.next (if_pos hbcu), hown _, fun _ h => Instr.noConfusion h, fun _ => htop, ?_, hoff, hon,
        hsw, hinv, hagr, State.evalDemand_eq _⟩
      exact fun h => (hsame h).trans (congrArg (fun x => { s.bcu with topCopy := x }) htop.symm)
    case inr.inr =>
      obtain ⟨hsame, hoff, hon, hsw, hinv, hagr, htop⟩ := ((s.taken (.topChangeNoticeBcu top)).setBcu
        { s.bcu with topCopy := top.map (fun q => (q.kind, q.angle)) }).evalDemand_moved
      refine ⟨_, congrArg Host.Outcome.next (if_pos hbcu), hown _, ?_, fun h => absurd rfl (h top), ?_, hoff, hon,
        hsw, hinv, hagr, State.evalDemand_eq _⟩
      · rintro top' ⟨⟩
        exact htop
      · exact fun h => (hsame h).trans (congrArg (fun x => { s.bcu with topCopy := x }) htop.symm)
  · intro s
    rw [← State.parkSettled_iff]
    unfold State.ownDemand
    cases s.nsc.node <;> simp [NodeState.running]

/-! ## The sweep notice (R76 to R78) -/

/-- The counts that a sweep notice makes of the brake as the demand leaves it (R76 to R78). -/
def State.countSweep (s : State) : State := if s.bcu.state = .stuck then s.countAgree else s.countInvalid

theorem State.bcuSweep_counts (s : State) : s.bcuSweep = s.evalDemand.countSweep := rfl

/-- STUCK with the switch agreeing is left at the third count (R78). -/
theorem State.countSweep_leaves {s : State} (hs : s.bcu.state = .stuck) (ha : s.bcu.agrees = true) (hrun : 2 ≤ s.bcu.agreeRun) :
    s.countSweep = (s.setBcu { s.bcu with state := if s.bcu.demand then .released else .engaged, agreeRun := 0 }).hand
      [.conditionReport .brakeStuck false] :=
  (if_pos hs).trans ((if_pos ha).trans (if_pos (Nat.succ_le_succ hrun)))

theorem State.countSweep_agrees {s : State} (hs : s.bcu.state = .stuck) (ha : s.bcu.agrees = true) (hrun : s.bcu.agreeRun < 2) :
    s.countSweep = s.setBcu { s.bcu with agreeRun := s.bcu.agreeRun + 1 } :=
  (if_pos hs).trans ((if_pos ha).trans (if_neg (Nat.not_le.2 (Nat.succ_lt_succ hrun))))

theorem State.countSweep_disagrees {s : State} (hs : s.bcu.state = .stuck) (ha : s.bcu.agrees = false) :
    s.countSweep = s.setBcu { s.bcu with agreeRun := 0 } :=
  (if_pos hs).trans (if_neg (by rw [ha]; exact Bool.false_ne_true))

/-- An INVALID switch takes the brake to STUCK at the third count (R77). -/
theorem State.countSweep_sticks {s : State} (hs : s.bcu.state ≠ .stuck) (hsw : s.bcu.switch = .invalid)
    (hrun : 2 ≤ s.bcu.invalidRun) : s.countSweep = s.enterStuck :=
  (if_neg hs).trans ((if_pos hsw).trans (if_pos (Nat.succ_le_succ hrun)))

theorem State.countSweep_invalid {s : State} (hs : s.bcu.state ≠ .stuck) (hsw : s.bcu.switch = .invalid)
    (hrun : s.bcu.invalidRun < 2) :
    s.countSweep = (s.setBcu { s.bcu with invalidRun := s.bcu.invalidRun + 1 }).lookHeldOff :=
  (if_neg hs).trans ((if_pos hsw).trans (if_neg (Nat.not_le.2 (Nat.succ_lt_succ hrun))))

theorem State.countSweep_valid {s : State} (hs : s.bcu.state ≠ .stuck) (hsw : s.bcu.switch ≠ .invalid) :
    s.countSweep = (s.setBcu { s.bcu with invalidRun := 0 }).lookHeldOff := (if_neg hs).trans (if_neg hsw)

/-- Only HELD_OFF looks at the partner flag. -/
theorem State.lookHeldOff_not_heldOff {s : State} (h : s.bcu.state ≠ .heldOff) : s.lookHeldOff = s := if_neg fun h' => h h'.1

theorem State.lookHeldOff_not_off {s : State} (h : s.partnerFlag ≠ .off) : s.lookHeldOff = s := if_neg fun h' => h h'.2

theorem State.lookHeldOff_off {s : State} (h : s.bcu.state = .heldOff) (hflag : s.partnerFlag = .off) :
    s.lookHeldOff = s.setBcu s.bcu.toEngaging := if_pos ⟨h, hflag⟩

theorem Bcu.toEngaging_runs (b : Bcu) : b.toEngaging.invalidRun = b.invalidRun ∧ b.toEngaging.switch = b.switch ∧
    b.toEngaging.state ≠ .stuck := by
  unfold Bcu.toEngaging
  split <;> simp

theorem State.lookHeldOff_runs (s : State) : s.lookHeldOff.bcu.invalidRun = s.bcu.invalidRun ∧
    s.lookHeldOff.bcu.switch = s.bcu.switch ∧ s.lookHeldOff.handed = s.handed ∧
    (s.lookHeldOff.bcu.state = .stuck ↔ s.bcu.state = .stuck) := by
  unfold State.lookHeldOff
  split
  next h =>
    obtain ⟨hinv, hsw, hstate⟩ := s.bcu.toEngaging_runs
    exact ⟨hinv, hsw, rfl, iff_of_false hstate (by rw [h.1]; decide)⟩
  · exact ⟨rfl, rfl, rfl, Iff.rfl⟩

/-- A brake that is neither STUCK nor HELD_OFF is only counted. -/
theorem State.countSweep_valid_rest {s : State} (hs : s.bcu.state ≠ .stuck) (hheld : s.bcu.state ≠ .heldOff)
    (hsw : s.bcu.switch ≠ .invalid) : s.countSweep = s.setBcu { s.bcu with invalidRun := 0 } :=
  (State.countSweep_valid hs hsw).trans (State.lookHeldOff_not_heldOff hheld)

theorem State.countSweep_invalid_rest {s : State} (hs : s.bcu.state ≠ .stuck) (hheld : s.bcu.state ≠ .heldOff)
    (hsw : s.bcu.switch = .invalid) (hrun : s.bcu.invalidRun < 2) :
    s.countSweep = s.setBcu { s.bcu with invalidRun := s.bcu.invalidRun + 1 } :=
  (State.countSweep_invalid hs hsw hrun).trans (State.lookHeldOff_not_heldOff hheld)

/-- HELD_OFF with a partner flag that is not OFF is only counted, and with OFF goes to ENGAGING (R76). -/
theorem State.countSweep_stays_heldOff {s : State} (hs : s.bcu.state = .heldOff) (hsw : s.bcu.switch ≠ .invalid)
    (hflag : s.partnerFlag ≠ .off) : s.countSweep = s.setBcu { s.bcu with invalidRun := 0 } :=
  (State.countSweep_valid (by rw [hs]; decide) hsw).trans (State.lookHeldOff_not_off hflag)

theorem State.countSweep_leaves_heldOff {s : State} (hs : s.bcu.state = .heldOff) (hsw : s.bcu.switch ≠ .invalid)
    (heng : s.bcu.switch ≠ .engaged) (hflag : s.partnerFlag = .off) :
    s.countSweep.bcu.state = .engaging ∧ s.countSweep.bcu.timer = some (.brake, 0) := by
  have h : s.countSweep = (s.setBcu { s.bcu with invalidRun := 0 }).setBcu ({ s.bcu with invalidRun := 0 } : Bcu).toEngaging :=
    (State.countSweep_valid (by rw [hs]; decide) hsw).trans (State.lookHeldOff_off hs hflag)
  rw [h]
  exact ⟨congrArg Bcu.state (if_neg heng), congrArg Bcu.timer (if_neg heng)⟩

/-- The counts keep the switch and the demand, and hand a report on exactly where STUCK is entered or left. -/
theorem State.countSweep_handed (s : State) : s.countSweep.bcu.switch = s.bcu.switch ∧
    ((s.countSweep.bcu.state = .stuck ↔ s.bcu.state = .stuck) → s.countSweep.handed = s.handed) := by
  by_cases hs : s.bcu.state = .stuck
  · cases ha : s.bcu.agrees with
    | false => rw [State.countSweep_disagrees hs ha]; exact ⟨rfl, fun _ => rfl⟩
    | true =>
      rcases Nat.lt_or_ge s.bcu.agreeRun 2 with hrun | hrun
      · rw [State.countSweep_agrees hs ha hrun]; exact ⟨rfl, fun _ => rfl⟩
      · rw [State.countSweep_leaves hs ha hrun]
        refine ⟨rfl, fun h => absurd (h.2 hs) ?_⟩
        cases hd : s.bcu.demand <;> simp [hd]
  · by_cases hsw : s.bcu.switch = .invalid
    · rcases Nat.lt_or_ge s.bcu.invalidRun 2 with hrun | hrun
      · rw [State.countSweep_invalid hs hsw hrun]
        obtain ⟨-, hswitch, hhanded, -⟩ :=
          (s.setBcu { s.bcu with invalidRun := s.bcu.invalidRun + 1 }).lookHeldOff_runs
        exact ⟨hswitch, fun _ => hhanded⟩
      · rw [State.countSweep_sticks hs hsw hrun]
        exact ⟨rfl, fun h => absurd (h.1 rfl) hs⟩
    · rw [State.countSweep_valid hs hsw]
      obtain ⟨-, hswitch, hhanded, -⟩ := (s.setBcu { s.bcu with invalidRun := 0 }).lookHeldOff_runs
      exact ⟨hswitch, fun _ => hhanded⟩

/-- When the switch agrees with the demand (R78). -/
theorem Bcu.agrees_iff (b : Bcu) : b.agrees = true ↔
    (b.demand = true ∧ b.switch = .released) ∨ (b.demand = false ∧ b.switch = .engaged) := by
  simp [Bcu.agrees]

/-- The switch that agrees with a demand (R78). -/
def goalOf (d : Bool) : Switch := if d then .released else .engaged

/-- The brake after its demand has changed to a new one (R71, R72). -/
def Bcu.movedTo (b : Bcu) (d : Bool) : Bcu :=
  if b.state = .stuck then { b with demand := d, driver := d }
  else if d = true ∧ b.state = .engaged then
    { b with demand := d, driver := false, state := .preload, timer := some (.preload, 0) }
  else if b.switch = goalOf d then
    { b with demand := d, driver := d, state := if d then .released else .engaged, timer := none }
  else { b with demand := d, driver := d, state := if d then .releasing else .engaging, timer := some (.brake, 0) }

/-- A demand that changes from the one the brake state follows moves it as R71 and R72 have it. -/
theorem Bcu.demand_movedTo {b : Bcu} (d : Bool) (hd : d ≠ b.demand) (hw : b.state = .stuck ∨ b.demand = b.state.wanted) :
    (if d then b.demandOn else b.demandOff) = b.movedTo d := by
  obtain ⟨st, driver, sw, demand, timer, invalidRun, agreeRun, topCopy⟩ := b
  cases d <;> cases st <;> simp_all [Bcu.movedTo, Bcu.demandOn, Bcu.demandOff, Bcu.toEngaging, Bcu.toReleasing,
    Bcu.toPreload, BrakeState.wanted, goalOf]

/-- What a move by the demand leaves, and where it leads. -/
theorem Bcu.movedTo_runs (b : Bcu) (d : Bool) : (b.movedTo d).demand = d ∧ (b.movedTo d).switch = b.switch ∧
    (b.movedTo d).invalidRun = b.invalidRun ∧ (b.movedTo d).agreeRun = b.agreeRun ∧
    ((b.movedTo d).state = .stuck ↔ b.state = .stuck) ∧ (b.movedTo d).state ≠ .heldOff := by
  unfold Bcu.movedTo
  by_cases hs : b.state = .stuck
  · simp [hs]
  · by_cases hp : d = true ∧ b.state = .engaged
    · simp [hp]
    · rw [if_neg hs, if_neg hp]
      split <;> cases d <;> simp [hs]

theorem Bcu.movedTo_agrees (b : Bcu) (d : Bool) : (b.movedTo d).agrees = decide (b.switch = goalOf d) := by
  obtain ⟨hdemand, hswitch, -⟩ := b.movedTo_runs d
  unfold Bcu.agrees
  rw [hdemand, hswitch]
  cases d <;> simp [goalOf] <;> rfl

theorem Bcu.movedTo_toStuck (b : Bcu) (d : Bool) : (b.movedTo d).toStuck =
    { b with demand := d, driver := d, state := .stuck, timer := none, invalidRun := 0, agreeRun := 0 } := by
  unfold Bcu.movedTo
  split
  · rfl
  · split
    · rfl
    · split <;> rfl

/-- The brake after the demand has been evaluated at a sweep notice, where it changes. -/
theorem State.evalDemand_movedTo {s : State} (h : s.ownDemand ≠ s.bcu.demand)
    (hw : s.bcu.state = .stuck ∨ s.bcu.demand = s.bcu.state.wanted) :
    s.evalDemand = s.setBcu (s.bcu.movedTo s.ownDemand) :=
  (State.evalDemand_changed h).trans (congrArg s.setBcu (Bcu.demand_movedTo _ h hw))

/-- A sweep notice neither enters nor leaves STUCK by the demand. -/
theorem State.evalDemand_stuck (s : State) : s.evalDemand.bcu.state = .stuck ↔ s.bcu.state = .stuck := by
  by_cases hsame : s.ownDemand = s.bcu.demand
  · rw [State.evalDemand_same hsame]
  · rw [State.evalDemand_changed hsame]
    obtain ⟨st, driver, sw, demand, timer, invalidRun, agreeRun, topCopy⟩ := s.bcu
    cases s.ownDemand <;> cases st <;>
      simp [Bcu.demandOn, Bcu.demandOff, Bcu.toEngaging, Bcu.toReleasing, Bcu.toPreload] <;> split <;> simp

/-- The counts of a sweep notice keep the demand. -/
theorem State.countSweep_demand (s : State) : s.countSweep.bcu.demand = s.bcu.demand := by
  have hlook (u : State) : u.lookHeldOff.bcu.demand = u.bcu.demand := by
    unfold State.lookHeldOff Bcu.toEngaging
    split
    · exact (apply_ite Bcu.demand _ _ _).trans (ite_self _)
    · rfl
  unfold State.countSweep State.countAgree State.countInvalid
  split
  · split
    · split <;> rfl
    · rfl
  · split
    · split
      · rfl
      · exact hlook _
    · exact hlook _

/-- Settles O28: the demand first, and then the counts of the brake as it leaves it. -/
theorem sweepNoticeCountsTheSwitch : Obligations.SweepNoticeCountsTheSwitch := by
  intro s n hbcu
  have hexec : exec (.sweepNoticeBcu n) s = .next (s.taken (.sweepNoticeBcu n)).evalDemand.countSweep :=
    congrArg Host.Outcome.next (if_pos hbcu)
  have hframe := (s.taken (.sweepNoticeBcu n)).bcuSweep_eq
  rw [State.bcuSweep_counts] at hframe
  refine ⟨_, hexec, ?_, ?_, s.bcu.agrees_iff, ?_, ?_, ?_, hframe⟩
  · rw [State.countSweep_demand, State.evalDemand_demand, State.taken_ownDemand]
  · obtain ⟨-, -, -, hsw, -⟩ := (s.taken (.sweepNoticeBcu n)).evalDemand_moved
    exact ((s.taken (.sweepNoticeBcu n)).evalDemand.countSweep_handed).1.trans hsw
  · intro hown
    rw [State.evalDemand_same (s := s.taken (.sweepNoticeBcu n)) hown]
    refine ⟨fun hs hsw hrun => ?_, fun hs hsw hrun => ?_, fun hs hsw => ?_, fun hs hsw hflag => ?_, fun hs hsw hflag => ?_,
      fun hs hheld hsw => ?_, fun hs ha hrun => ?_, fun hs ha hrun => ?_, fun hs ha => ?_⟩
    · rw [State.countSweep_sticks (s := s.taken _) hs hsw hrun]
      exact ⟨rfl, rfl⟩
    · rw [State.countSweep_invalid (s := s.taken _) hs hsw hrun]
      exact (State.lookHeldOff_runs _).1
    · rw [State.countSweep_valid (s := s.taken _) hs hsw]
      exact (State.lookHeldOff_runs _).1
    · have hne : s.bcu.switch ≠ .engaged ∧ s.bcu.switch ≠ .invalid := by
        rcases hsw with h | h <;> rw [h] <;> decide
      exact State.countSweep_leaves_heldOff (s := s.taken _) hs hne.2 hne.1 hflag
    · rw [State.countSweep_stays_heldOff (s := s.taken _) hs hsw hflag]
      exact hs
    · rw [State.countSweep_valid_rest (s := s.taken _) hs hheld hsw]
      rfl
    · rw [State.countSweep_leaves (s := s.taken _) hs ha hrun]
      exact ⟨rfl, rfl⟩
    · rw [State.countSweep_agrees (s := s.taken _) hs ha hrun]
      rfl
    · rw [State.countSweep_disagrees (s := s.taken _) hs ha]
      rfl
  · intro hown hw
    have hmove := State.evalDemand_movedTo (s := s.taken (.sweepNoticeBcu n)) hown hw
    obtain ⟨hdemand, hswitch, hinv, hagr, hstuck, hheld⟩ := s.bcu.movedTo_runs s.ownDemand
    generalize (s.taken (.sweepNoticeBcu n)).evalDemand = u at hmove
    have hbcu' : u.bcu = s.bcu.movedTo s.ownDemand := by rw [hmove]; rfl
    have hhanded : u.handed = s.handed.erase (.sweepNoticeBcu n) := by rw [hmove]; rfl
    rw [← hbcu'] at hdemand hswitch hinv hagr hstuck hheld
    intro d goal moved
    have hagrees : u.bcu.agrees = decide (s.bcu.switch = goal) := by rw [hbcu']; exact Bcu.movedTo_agrees _ _
    have hmoved : u.bcu = moved := hbcu'
    refine ⟨fun hs hsw => ?_, fun hs hsw hrun => ?_, fun hs hsw hrun => ?_, fun hs hsw hrun => ?_, fun hs hsw hrun => ?_,
      fun hs hsw => ?_⟩
    · rw [State.countSweep_valid_rest (mt hstuck.1 hs) hheld (hswitch ▸ hsw), hmoved]
      rfl
    · rw [State.countSweep_invalid_rest (mt hstuck.1 hs) hheld (hswitch.trans hsw) (hinv ▸ hrun), hinv, hmoved]
      rfl
    · rw [State.countSweep_sticks (mt hstuck.1 hs) (hswitch.trans hsw) (hinv ▸ hrun)]
      exact ⟨(congrArg Bcu.toStuck hbcu').trans (Bcu.movedTo_toStuck _ _), congrArg (· ++ _) hhanded⟩
    · rw [State.countSweep_leaves (hstuck.2 hs) (hagrees.trans (decide_eq_true hsw)) (hagr ▸ hrun)]
      refine ⟨?_, congrArg (· ++ _) hhanded⟩
      rw [hdemand, hmoved]
      rfl
    · rw [State.countSweep_agrees (hstuck.2 hs) (hagrees.trans (decide_eq_true hsw)) (hagr ▸ hrun), hagr, hmoved]
      rfl
    · rw [State.countSweep_disagrees (hstuck.2 hs) (hagrees.trans (decide_eq_false hsw)), hmoved]
      rfl
  · intro h
    refine ((s.taken (.sweepNoticeBcu n)).evalDemand.countSweep_handed).2 (h.trans ?_) |>.trans ?_
    · exact (s.taken (.sweepNoticeBcu n)).evalDemand_stuck.symm
    · rw [State.evalDemand_eq]; rfl

end Sys2Proof.Machine
end

section
/-! SUPPORT. The measurement unit: the sweep, the judging of a word, the wheel, and the records over runs of results. -/

namespace Sys2Proof.Machine

/-! ## The sweep timer and the wheel (R101, R111) -/

/-- A sweep expiry at which a sweep is due (R101, R113). -/
theorem Mu.sweepExpiry_due (m : Mu) {node : NodeState} (h : node ≠ .dormant ∨ 15 ≤ m.dormantCount) :
    m.sweepExpiry node = ({ m with sweepTimer := some 0, dormantCount := 0 } : Mu).dueSweep := by
  by_cases hd : node = .dormant
  · exact (if_pos hd).trans (if_neg (Nat.not_lt.2 (Nat.succ_le_succ (h.resolve_left fun hn => hn hd))))
  · exact if_neg hd

theorem Mu.sweepExpiry_not_due (m : Mu) {node : NodeState} (h : ¬(node ≠ .dormant ∨ 15 ≤ m.dormantCount)) :
    m.sweepExpiry node = { m with sweepTimer := some 0, dormantCount := m.dormantCount + 1 } := by
  obtain ⟨hd, hcount⟩ := not_or.1 h
  exact (if_pos (not_not.1 hd)).trans (if_pos (Nat.succ_lt_succ (Nat.not_le.1 hcount)))

/-- Settles O29: a due sweep is begun or skipped, and the three cases of an edge. -/
theorem sweepTimerAndWheelEdge : Obligations.SweepTimerAndWheelEdge := by
  refine ⟨fun s hlive => ?_, fun s hlive hwired => ?_, fun s h => ?_⟩
  · have hexec : exec .sweepTimerExpiry s = .next { s with mu := s.mu.sweepExpiry s.nsc.node } :=
      congrArg Host.Outcome.next (if_pos hlive)
    rw [hexec]
    refine ⟨fun hdue hidle => ?_, fun hdue hbusy => ?_, fun hdue => ?_⟩
    · rw [Mu.sweepExpiry_due _ hdue]
      exact congrArg (fun m => Host.Outcome.next { s with mu := m }) (if_pos hidle)
    · rw [Mu.sweepExpiry_due _ hdue]
      exact congrArg (fun m => Host.Outcome.next { s with mu := m }) (if_neg hbusy)
    · rw [Mu.sweepExpiry_not_due _ hdue]
  · have hexec : exec .wheelEdge s = .next { s with mu := s.mu.edge s.clock } :=
      congrArg Host.Outcome.next (if_pos (by rw [hwired, hlive]; rfl))
    rw [hexec]
    refine ⟨fun hfirst => ?_, fun hlater hclose => ?_, fun hlater hfar => ?_⟩
    · exact congrArg (fun m => Host.Outcome.next { s with mu := m }) (if_pos hfirst)
    · exact congrArg (fun m => Host.Outcome.next { s with mu := m }) ((if_neg hlater).trans (if_pos hclose))
    · exact congrArg (fun m => Host.Outcome.next { s with mu := m }) ((if_neg hlater).trans (if_neg (Nat.not_lt.2 hfar)))
  · refine congrArg Host.Outcome.next (if_neg ?_)
    rcases h with h | h <;> simp [h]

/-! ## The judging of a word (R103 to R106) -/

/-- The check bits agree with the nibbles when their numbers do, modulo 16. -/
theorem wordCheck_iff (w : BitVec 24) : wordCheck w = nibbleSum w ↔ (w.extractLsb' 0 4).toNat =
    ((w.extractLsb' 20 4).toNat + (w.extractLsb' 16 4).toNat + (w.extractLsb' 12 4).toNat + (w.extractLsb' 8 4).toNat) % 16 := by
  rw [BitVec.toNat_eq]
  simp only [wordCheck, nibbleSum, BitVec.toNat_add, Nat.mod_add_mod]

/-- A reading is within a range about 0 when its magnitude is. -/
theorem outside_iff (lim v : Int) (h : 0 ≤ lim) : (v < -lim ∨ lim < v) ↔ ¬v.natAbs ≤ lim.natAbs := by omega

/-- The judgement of a word, in the order of R105. -/
theorem judgeWord_eq {lim : Int} (hlim : 0 ≤ lim) (w : BitVec 24) : judgeWord lim w =
    ⟨if (w.extractLsb' 0 4).toNat ≠ ((w.extractLsb' 20 4).toNat + (w.extractLsb' 16 4).toNat + (w.extractLsb' 12 4).toNat +
        (w.extractLsb' 8 4).toNat) % 16 then .check
      else if w.extractLsb' 4 4 ≠ 0 then .status
      else if (w.extractLsb' 8 16).toInt.natAbs ≤ lim.natAbs then .none else .range, some (w.extractLsb' 8 16).toInt⟩ := by
  unfold judgeWord
  congr 1
  refine if_congr (not_congr (wordCheck_iff w)) rfl (if_congr Iff.rfl rfl ?_)
  exact (if_congr (outside_iff lim _ hlim) rfl rfl).trans (ite_not _ _ _)

theorem range1_nonneg (r : Role) : 0 ≤ range1 r := by unfold range1; split <;> decide
theorem range2_nonneg (r : Role) : 0 ≤ range2 r := by unfold range2; split <;> decide

/-- Settles O30: the transaction that waits takes the word's judgement, or the miss of a timeout. -/
theorem readyEndsATransaction : Obligations.ReadyEndsATransaction := by
  refine ⟨fun s w => ?_, fun s n htimer => ?_, fun s h => ?_⟩
  · refine ⟨fun h => ?_, fun h => ?_, fun h => ?_⟩
    · have hexec : exec (.readyEvent w) s = .next (s.endTransaction (judgeWord (range1 s.role) w)) := by
        show Host.Outcome.next _ = _
        rw [h]
      rw [hexec, judgeWord_eq (range1_nonneg _), State.endTransaction, h]
      rfl
    · have hexec : exec (.readyEvent w) s = .next (s.endTransaction (judgeWord (range2 s.role) w)) := by
        show Host.Outcome.next _ = _
        rw [h]
      rw [hexec, judgeWord_eq (range2_nonneg _), State.endTransaction, h]
      rfl
    · show Host.Outcome.next _ = _
      rcases h with h | h <;> rw [h]
  · have hlimit : s.mu.readyTimer.atLimit Config.tReady = decide (40 ≤ n) := by rw [htimer]; rfl
    have hexec (hn : 40 ≤ n) : exec .readyTimeout s = .next (match s.mu.sweep with
        | .running1 => s.endTransaction timeoutReading
        | .running2 => s.endTransaction timeoutReading
        | _ => s) := congrArg Host.Outcome.next (if_pos (hlimit.trans (decide_eq_true hn)))
    refine ⟨fun hn => ?_, fun hn h => ?_, fun hn h => ?_⟩
    · refine congrArg Host.Outcome.next (if_neg ?_)
      rw [hlimit, decide_eq_false (Nat.not_le.2 hn)]
      exact Bool.false_ne_true
    · rw [hexec hn, h]
      simp only [State.endTransaction, h]
      rfl
    · rw [hexec hn, h]
      simp only [State.endTransaction, h]
      rfl
  · show Host.Outcome.next _ = _
    rcases h with h | h <;> rw [h] <;> exact congrArg Host.Outcome.next (ite_self _)

/-! ## The sweep completion (R102, R106, R112) -/

/-- What the wheel's working out leaves: the speed and the edge count only. -/
theorem Mu.afterWheel_eq (m : Mu) (p : Params) (now : Stamp) : m.afterWheel p now =
    { m with wheelSpeed := (m.afterWheel p now).wheelSpeed, edgeCount := (m.afterWheel p now).edgeCount } := by
  unfold Mu.afterWheel
  split <;> rfl

/-- A wheel that is not wired keeps its speed and its count. -/
theorem Mu.afterWheel_unwired (m : Mu) {p : Params} (now : Stamp) (h : p.pulseWired = false) : m.afterWheel p now = m :=
  if_neg (by rw [h]; exact Bool.false_ne_true)

/-- The speed and the count of a wired wheel, with no edge for half a second, with too few edges, and with two (R112). -/
theorem Mu.afterWheel_stopped (m : Mu) {p : Params} {now : Stamp} (h : p.pulseWired = true) (hg : 500000 ≤ (now - m.t1).toNat) :
    (m.afterWheel p now).wheelSpeed = some 0 ∧ (m.afterWheel p now).edgeCount = 0 := by
  have hw : m.wheel p now = (0, 0) := if_pos hg
  rw [Mu.afterWheel, if_pos h, hw]
  exact ⟨rfl, rfl⟩

theorem Mu.afterWheel_few (m : Mu) {p : Params} {now : Stamp} (h : p.pulseWired = true) (hg : (now - m.t1).toNat < 500000)
    (hc : m.edgeCount < 2) : (m.afterWheel p now).wheelSpeed = some 0 ∧ (m.afterWheel p now).edgeCount = m.edgeCount := by
  have hw : m.wheel p now = (m.edgeCount, 0) := (if_neg (Nat.not_le.2 hg)).trans (if_pos hc)
  rw [Mu.afterWheel, if_pos h, hw]
  exact ⟨rfl, rfl⟩

theorem Mu.afterWheel_turning (m : Mu) {p : Params} {now : Stamp} (h : p.pulseWired = true)
    (hg : (now - m.t1).toNat < 500000) (hc : 2 ≤ m.edgeCount) :
    (m.afterWheel p now).wheelSpeed =
      some (min (p.circ * 100000 / (p.teeth * max (now - m.t1).toNat (m.t1 - m.t0).toNat)) 2500) ∧
      (m.afterWheel p now).edgeCount = m.edgeCount := by
  have hw : m.wheel p now = (m.edgeCount, wheelQuotient p.circ p.teeth (max (age now m.t1) (age m.t1 m.t0))) :=
    (if_neg (Nat.not_le.2 hg)).trans (if_neg (Nat.not_lt.2 hc))
  rw [Mu.afterWheel, if_pos h, hw]
  exact ⟨rfl, rfl⟩

/-- The MU with the three results of a sweep in its records, the wheel not yet worked out. -/
def State.readMu (s : State) (a b c : Reading) : Mu :=
  { s.mu with records := s.mu.records.applySweep s.role s.prm.nHold s.clock a b c }

/-- The MU with the wheel worked out. -/
def State.sweptMu (s : State) (a b c : Reading) : Mu := (s.readMu a b c).afterWheel s.prm s.clock

theorem State.sweptMu_records (s : State) (a b c : Reading) :
    (s.sweptMu a b c).records = s.mu.records.applySweep s.role s.prm.nHold s.clock a b c :=
  congrArg Mu.records ((s.readMu a b c).afterWheel_eq s.prm s.clock)

theorem State.sweptMu_eq (s : State) (a b c : Reading) : s.sweptMu a b c = { s.mu with
    records := (s.sweptMu a b c).records, wheelSpeed := (s.sweptMu a b c).wheelSpeed,
    edgeCount := (s.sweptMu a b c).edgeCount } := by
  rw [State.sweptMu_records]
  exact (s.readMu a b c).afterWheel_eq s.prm s.clock

/-- The state after a sweep completion, its notice not yet handed on. -/
def State.swept (s : State) (a b c : Reading) : State :=
  { s with mu := { s.sweptMu a b c with sweep := .idle, buffer := [], readyTimer := none } }

theorem State.completeSweep_hand (s : State) (a b c : Reading) :
    s.completeSweep a b c = (s.swept a b c).hand ((s.swept a b c).sweepNotices (s.swept a b c).noticeOf) := rfl

/-- Settles O31: the results applied, the wheel worked out, and the notice of the records as they then stand. -/
theorem conversionCompletesTheSweep : Obligations.ConversionCompletesTheSweep := by
  intro s temp a b hsweep hbuffer
  have hexec : exec (.conversionComplete temp) s = .next (s.completeSweep a b (judgeTemp temp)) := by
    refine congrArg Host.Outcome.next ((if_pos hsweep).trans ?_)
    simp only [State.endTransaction, hsweep, hbuffer]
  rw [State.completeSweep_hand] at hexec
  have hrecords := s.sweptMu_records a b (judgeTemp temp)
  refine ⟨_, (s.swept a b (judgeTemp temp)).noticeOf, hexec, ⟨fun hr => ?_, fun hr => ?_⟩, rfl, rfl, rfl, ⟨fun hw => ?_,
    fun hw hg => ?_, fun hw hg hc => ?_, fun hw hg hc => ?_⟩, rfl, rfl, rfl, rfl, rfl, ?_⟩
  · exact hrecords.trans (if_pos hr)
  · exact hrecords.trans (if_neg hr)
  · have h : s.sweptMu a b (judgeTemp temp) = s.readMu a b (judgeTemp temp) := Mu.afterWheel_unwired _ s.clock hw
    exact ⟨(congrArg Mu.wheelSpeed h :), (congrArg Mu.edgeCount h :)⟩
  · exact Mu.afterWheel_stopped (s.readMu a b (judgeTemp temp)) hw hg
  · exact Mu.afterWheel_few (s.readMu a b (judgeTemp temp)) hw hg hc
  · exact Mu.afterWheel_turning (s.readMu a b (judgeTemp temp)) hw hg hc
  · rw [List.append_assoc]
    exact congrArg (fun x : Mu => { s with
      mu := { x with sweep := .idle, buffer := [], readyTimer := none }
      handed := s.handed ++ s.sweepNotices (s.swept a b (judgeTemp temp)).noticeOf }) (s.sweptMu_eq a b (judgeTemp temp))

/-! ## The records over runs of results (R107 to R109) -/

/-- A good read (R107). -/
theorem Sample.apply_good (nHold : Nat) (now : Stamp) (value : Option Int) (q : Sample) :
    q.apply nHold now ⟨.none, value⟩ =
      { q with state := stateAfterGood q.state (min (q.goodRun + 1) 16), value := value, lastGood := value, stamp := now,
               missRun := 0, goodRun := min (q.goodRun + 1) 16 } := rfl

/-- A miss (R108). -/
theorem Sample.apply_miss (nHold : Nat) (now : Stamp) {rd : Reading} (q : Sample) (h : rd.cause ≠ .none) :
    q.apply nHold now rd =
      { q with state := stateAfterMiss nHold q.state (min (q.missRun + 1) 255), value := rd.value,
               missRun := min (q.missRun + 1) 255, goodRun := 0, lastMiss := rd.cause } := if_neg h

/-- A record after a run of results, the oldest first. -/
def Sample.applyAll (nHold : Nat) (q : Sample) (l : List (Stamp × Reading)) : Sample :=
  l.foldl (fun q x => q.apply nHold x.1 x.2) q

theorem Sample.applyAll_append (nHold : Nat) (q : Sample) (l : List (Stamp × Reading)) (x : Stamp × Reading) :
    q.applyAll nHold (l ++ [x]) = (q.applyAll nHold l).apply nHold x.1 x.2 := List.foldl_append

/-- A run of misses on a record that was GOOD, or HELD with no miss (R108). -/
theorem Sample.applyAll_misses {nHold : Nat} {q : Sample} (h1 : 1 ≤ nHold) (h10 : nHold ≤ 10)
    (hq : q.state = .good ∨ q.state = .held) (hmiss : q.missRun = 0) (l : List (Stamp × Reading)) (x : Stamp × Reading)
    (hl : ∀ y ∈ l ++ [x], y.2.cause ≠ .none) :
    q.applyAll nHold (l ++ [x]) = { q with
      state := if l.length + 1 ≤ nHold then .held else .failed, value := x.2.value, missRun := min (l.length + 1) 255,
      goodRun := 0, lastMiss := x.2.cause } := by
  induction l using List.reverseRecOn generalizing x with
  | nil =>
    rw [Sample.applyAll_append, Sample.apply_miss _ _ _ (hl x (by simp))]
    show Sample.mk _ _ _ _ _ _ _ = _
    rcases hq with hs | hs <;> simp [Sample.applyAll, stateAfterMiss, hs, hmiss, h1]
  | append_singleton l y ih =>
    have ih := ih y fun z hz => hl z (List.mem_append_left _ hz)
    rw [Sample.applyAll_append, ih, Sample.apply_miss _ _ _ (hl x (by simp))]
    have hrun : min (min (l.length + 1) 255 + 1) 255 = min ((l ++ [y]).length + 1) 255 := by
      rw [List.length_append, List.length_singleton]; omega
    have hstate : stateAfterMiss nHold (if l.length + 1 ≤ nHold then .held else .failed) (min ((l ++ [y]).length + 1) 255) =
        if (l ++ [y]).length + 1 ≤ nHold then .held else .failed := by
      rw [List.length_append, List.length_singleton]
      by_cases hh : l.length + 1 ≤ nHold
      · rw [if_pos hh]
        exact if_congr (by omega) rfl rfl
      · rw [if_neg hh, if_neg (by omega)]
        rfl
    dsimp only
    rw [hrun, hstate]

/-- A run of good reads on a FAILED record (R109). -/
theorem Sample.applyAll_goods {nHold : Nat} {q : Sample} (hq : q.state = .failed) (hgood : q.goodRun = 0)
    (l : List (Stamp × Int)) (x : Stamp × Int) :
    (l ++ [x]).foldl (fun q x => q.apply nHold x.1 ⟨.none, some x.2⟩) q = { q with
      state := if l.length + 1 < 16 then .failed else .good, value := some x.2, lastGood := some x.2, stamp := x.1,
      missRun := 0, goodRun := min (l.length + 1) 16 } := by
  induction l using List.reverseRecOn generalizing x with
  | nil => simp [Sample.apply_good, stateAfterGood, hq, hgood, Config.nRec]
  | append_singleton l y ih =>
    rw [List.foldl_append, ih y, List.foldl_cons, List.foldl_nil, Sample.apply_good]
    have hrun : min (min (l.length + 1) 16 + 1) 16 = min ((l ++ [y]).length + 1) 16 := by
      rw [List.length_append, List.length_singleton]; omega
    have hstate : stateAfterGood (if l.length + 1 < 16 then .failed else .good) (min ((l ++ [y]).length + 1) 16) =
        if (l ++ [y]).length + 1 < 16 then .failed else .good := by
      rw [List.length_append, List.length_singleton]
      by_cases hh : l.length + 1 < 16
      · rw [if_pos hh, ← ite_not]
        exact if_congr (by unfold Config.nRec; omega) rfl rfl
      · rw [if_neg hh, if_neg (by omega)]
        rfl
    dsimp only
    rw [hrun, hstate]

/-- A list that is not empty ends in its last element. -/
theorem eq_append_last {α : Type} {l : List α} (h : l ≠ []) : ∃ l' x, l = l' ++ [x] :=
  ⟨l.dropLast, l.getLast h, (List.dropLast_append_getLast h).symm⟩

/-- Settles O32: one result, and the two runs, by induction on the last result. -/
theorem recordFailsAndRecovers : Obligations.RecordFailsAndRecovers := by
  refine ⟨fun nHold now value q => ?_, fun nHold now cause value q hc => ?_, fun nHold q l h1 h10 hq hmiss hl hcause => ?_,
    fun nHold q l hq hgood hl => ?_⟩
  · rw [Sample.apply_good]
    refine ⟨?_, ?_, rfl⟩
    · rintro (h | h) <;> rw [h] <;> rfl
    · intro h
      rw [h]
      dsimp only [stateAfterGood]
      rw [← ite_not]
      exact if_congr (by unfold Config.nRec; omega) rfl rfl
  · rw [Sample.apply_miss _ _ _ hc]
    refine ⟨?_, ?_, ?_, rfl⟩ <;> intro h <;> rw [h] <;> rfl
  · obtain ⟨l, x, rfl⟩ := eq_append_last hl
    have h := Sample.applyAll_misses h1 h10 hq hmiss l x hcause
    unfold Sample.applyAll at h
    dsimp only
    rw [h]
    simp
  · obtain ⟨l, x, rfl⟩ := eq_append_last hl
    dsimp only
    rw [Sample.applyAll_goods hq hgood l x]
    simp

end Sys2Proof.Machine
end

section
/-! SUPPORT. Numbers: the share to the nearest, the consensus of a list, and the bits of a SPEED payload. -/

namespace Sys2Proof.Machine

/-! ## The share (R53) -/

/-- At a tie the quotient to the nearest is the one away from zero. -/
theorem nearestDiv_tie (a b : Int) (hb : 0 < b) (h : (2 * (a - nearestDiv a b * b)).natAbs = b.natAbs) :
    a.natAbs < (nearestDiv a b * b).natAbs := by
  have below (x : Int) : 2 * (x - (2 * x + b) / (2 * b) * b) < b := by
    have h1 := Int.emod_add_mul_ediv (2 * x + b) (2 * b)
    have h2 := Int.emod_lt_of_pos (2 * x + b) (b := 2 * b) (by omega)
    have e : 2 * ((2 * x + b) / (2 * b) * b) = 2 * b * ((2 * x + b) / (2 * b)) := by ring
    omega
  unfold nearestDiv at h ⊢
  split at h
  next ha =>
    rw [if_pos ha]
    have := below a
    omega
  next ha =>
    rw [if_neg ha]
    have hx := below (-a)
    rw [Int.neg_mul] at h ⊢
    omega

/-- A multiple of the divisor is divided exactly. -/
theorem nearestDiv_mul (a b : Int) (hb : 0 < b) : nearestDiv (a * b) b = a := by
  have h := nearestDiv_near (a * b) b hb
  rw [← Int.sub_mul, ← Int.mul_assoc, Int.natAbs_mul, Int.natAbs_mul] at h
  have hb' : 0 < b.natAbs := Int.natAbs_pos.2 hb.ne'
  have h2 : (2 : Int).natAbs * (a - nearestDiv (a * b) b).natAbs ≤ 1 :=
    Nat.le_of_mul_le_mul_right (h.trans_eq (Nat.one_mul _).symm) hb'
  rw [show (2 : Int).natAbs = 2 from rfl] at h2
  omega

/-- Settles O18: the quotient of the demand by weight, to the nearest. -/
theorem shareIsNearestQuotient : Obligations.ShareIsNearestQuotient := by
  intro tau w wP
  refine ⟨fun h => if_pos h, fun h => ?_, fun hp hw => ?_⟩
  · have hshare : shareRaw tau w wP = nearestDiv (tau * w) ((w + wP : Nat) : Int) := if_neg h.ne'
    have hpos : (0 : Int) < ((w + wP : Nat) : Int) := Int.natCast_pos.2 h
    have hnear := nearestDiv_near (tau * w) _ hpos
    rw [Int.natAbs_natCast, Int.natAbs_mul, show (2 : Int).natAbs = 2 from rfl] at hnear
    rw [hshare]
    refine ⟨hnear, fun htie => ?_⟩
    have h' := nearestDiv_tie (tau * w) _ hpos (by
      rw [Int.natAbs_natCast, Int.natAbs_mul, show (2 : Int).natAbs = 2 from rfl]
      exact htie)
    rw [Int.natAbs_mul (nearestDiv _ _), Int.natAbs_natCast] at h'
    exact h'
  · subst hp
    have hshare : shareRaw tau w 0 = nearestDiv (tau * w) ((w + 0 : Nat) : Int) := if_neg (by omega)
    rw [hshare]
    exact nearestDiv_mul tau w (Int.natCast_pos.2 hw)

/-! ## The consensus of a list (R130) -/

theorem sorted_of_perm {l m : List Nat} (h : l.Perm m) : sorted l = sorted m :=
  sorted_eq (h.trans (sorted_perm m).symm) (sorted_pairwise m)

theorem consensusOf_perm {l m : List Nat} (h : l.Perm m) : consensusOf l = consensusOf m := by
  unfold consensusOf
  rw [sorted_of_perm h]

theorem consensusOf_pair (a b : Nat) : consensusOf [a, b] = some ((a + b) / 2, .valid) := by
  rcases Nat.le_total a b with h | h
  · rw [consensusOf, sorted_eq (List.Perm.refl _) (by simpa using h)]
  · rw [consensusOf, sorted_eq (List.Perm.swap b a []) (by simpa using h), Nat.add_comm]

/-- Settles O36: the order is that of the sorted list, whatever it was. -/
theorem consensusOfUsedValues : Obligations.ConsensusOfUsedValues := by
  refine ⟨rfl, fun a => rfl, fun l m h => consensusOf_perm h, consensusOf_pair, fun a b c hab hbc => ?_, fun a b c d hab hbc hcd => ?_⟩
  · rw [consensusOf, sorted_eq (List.Perm.refl [a, b, c]) (by simp; omega)]
  · rw [consensusOf, sorted_eq (List.Perm.refl [a, b, c, d]) (by simp; omega)]

/-! ## The bits of a payload (R127, R128) -/

/-- The number of more bits than one, the first the most significant. -/
theorem bitsValue_append (l m : List Bool) : bitsValue (l ++ m) = bitsValue l * 2 ^ m.length + bitsValue m := by
  induction m using List.reverseRecOn with
  | nil => simp [bitsValue]
  | append_singleton m b ih =>
    have hsnoc (x : List Bool) : bitsValue (x ++ [b]) = 2 * bitsValue x + b.toNat := List.foldl_append
    rw [← List.append_assoc, hsnoc, hsnoc, ih, List.length_append, List.length_singleton, Nat.pow_succ]
    ring

theorem bitsValue_lt (l : List Bool) : bitsValue l < 2 ^ l.length := by
  induction l with
  | nil => decide
  | cons b l ih =>
    have h := bitsValue_append [b] l
    have hb : bitsValue [b] ≤ 1 := by cases b <;> decide
    rw [List.singleton_append] at h
    rw [h, List.length_cons, Nat.pow_succ]
    have := Nat.mul_le_mul_right (2 ^ l.length) hb
    omega

/-- The eight bits of a byte spell its number. -/
theorem bitsValue_byte (b : Byte) : bitsValue ([7, 6, 5, 4, 3, 2, 1, 0].map b.getLsbD) = b.toNat := by
  revert b
  decide +kernel

theorem payloadBits_append (l m : List Byte) : payloadBits (l ++ m) = payloadBits l ++ payloadBits m := List.flatMap_append

theorem payloadBits_length (l : List Byte) : (payloadBits l).length = 8 * l.length := by
  induction l with
  | nil => rfl
  | cons b l ih =>
    rw [← List.singleton_append, payloadBits_append, List.length_append, ih, List.length_append]
    simp [payloadBits]
    omega

/-- The bits of a payload spell the number of its bytes. -/
theorem bitsValue_payload (l : List Byte) : bitsValue (payloadBits l) = l.foldl (fun n b => n * 256 + b.toNat) 0 := by
  induction l using List.reverseRecOn with
  | nil => rfl
  | append_singleton l b ih =>
    have hbyte : payloadBits [b] = [7, 6, 5, 4, 3, 2, 1, 0].map b.getLsbD := List.flatMap_singleton _ _
    rw [payloadBits_append, bitsValue_append, ih, hbyte, bitsValue_byte, List.foldl_append, List.length_map]
    simp

/-- A field of a list of bits is a division and a remainder of its number. -/
theorem bitsValue_field (l : List Bool) (o w : Nat) (h : o + w ≤ l.length) :
    bitsValue ((l.drop o).take w) = bitsValue l / 2 ^ (l.length - o - w) % 2 ^ w := by
  have hsplit : l = l.take o ++ ((l.drop o).take w ++ (l.drop o).drop w) := by
    rw [List.take_append_drop, List.take_append_drop]
  have hmid : ((l.drop o).take w).length = w := by rw [List.length_take, List.length_drop]; omega
  have hlast : ((l.drop o).drop w).length = l.length - o - w := by rw [List.length_drop, List.length_drop]
  have hval : bitsValue l = (bitsValue (l.take o) * 2 ^ w + bitsValue ((l.drop o).take w)) * 2 ^ (l.length - o - w) +
      bitsValue ((l.drop o).drop w) := by
    conv_lhs => rw [hsplit, bitsValue_append, bitsValue_append, List.length_append, hmid, hlast, Nat.pow_add]
    ring
  have hlt := bitsValue_lt ((l.drop o).drop w)
  have hlt' := bitsValue_lt ((l.drop o).take w)
  rw [hlast] at hlt
  rw [hmid] at hlt'
  rw [hval, Nat.mul_comm _ (2 ^ (l.length - o - w)), Nat.mul_add_div (Nat.two_pow_pos _), Nat.div_eq_of_lt hlt, Nat.add_zero,
    Nat.mul_comm, Nat.mul_add_mod, Nat.mod_eq_of_lt hlt']

/-- One bit of a list of bits is a bit of its number. -/
theorem getElem?_eq_testBit (l : List Bool) (i : Nat) (h : i < l.length) :
    l[i]? = some ((bitsValue l).testBit (l.length - 1 - i)) := by
  have hfield := bitsValue_field l i 1 h
  have hbit : (l.drop i).take 1 = [l[i]] := by
    rw [List.drop_eq_getElem_cons h, List.take_succ_cons, List.take_zero]
  have hvalue : bitsValue [l[i]] = l[i].toNat := by simp [bitsValue]
  have hsub : l.length - i - 1 = l.length - 1 - i := by omega
  rw [hbit, hvalue, hsub] at hfield
  rw [List.getElem?_eq_getElem h, Nat.testBit_eq_decide_div_mod_eq]
  rw [pow_one] at hfield
  rw [← hfield]
  cases l[i] <;> rfl

/-- The sign bit of a field is set when its number is in the upper half. -/
theorem head_iff_upper (l : List Bool) (h : l ≠ []) : l.head?.getD false = decide (2 ^ (l.length - 1) ≤ bitsValue l) := by
  cases l with
  | nil => exact absurd rfl h
  | cons b l =>
    have hval : bitsValue (b :: l) = b.toNat * 2 ^ l.length + bitsValue l := by
      have := bitsValue_append [b] l
      simpa [bitsValue] using this
    have hlt := bitsValue_lt l
    rw [hval]
    cases b
    · simpa using hlt
    · simp

/-- Whether the validity descriptor lets the payload give a speed. -/
theorem speedValid_iff (p : Params) (bits : List Bool) : speedValid p bits = true ↔ p.valPresent = false ∨
    (p.valOffset < bits.length ∧ (bitsValue bits).testBit (bits.length - 1 - p.valOffset) = p.valSense) := by
  unfold speedValid
  by_cases h : p.valOffset < bits.length
  · rw [getElem?_eq_testBit bits _ h]
    simp [h]
  · rw [List.getElem?_eq_none (Nat.not_lt.1 h)]
    simp [h]

/-- Settles O35: the field and the validity bit as parts of the payload's number. -/
theorem speedExtraction : Obligations.SpeedExtraction := by
  intro p payload hw number bits valid field raw
  have hlen : (payloadBits payload).length = bits := payloadBits_length payload
  have hnum : bitsValue (payloadBits payload) = number := bitsValue_payload payload
  have hvalid : speedValid p (payloadBits payload) = true ↔ valid := by
    rw [speedValid_iff, hlen, hnum]
  refine ⟨fun h => if_neg fun h' => ?_, fun h => if_neg fun h' => h (hvalid.1 h'.2), fun h hv => ?_⟩
  · exact absurd (hlen ▸ h'.1) (Nat.not_le.2 h)
  · have hfit : p.spdOffset + p.spdWidth ≤ (payloadBits payload).length := hlen ▸ h
    have hfield : bitsValue (((payloadBits payload).drop p.spdOffset).take p.spdWidth) = field := by
      rw [bitsValue_field _ _ _ hfit, hlen, hnum]
    have hflen : (((payloadBits payload).drop p.spdOffset).take p.spdWidth).length = p.spdWidth := by
      rw [List.length_take, List.length_drop]
      omega
    have hraw : rawSpeed p.spdSigned (((payloadBits payload).drop p.spdOffset).take p.spdWidth) = raw := by
      have hne : ((payloadBits payload).drop p.spdOffset).take p.spdWidth ≠ [] := by
        intro hnil
        rw [hnil, List.length_nil] at hflen
        omega
      unfold rawSpeed
      rw [head_iff_upper _ hne, hflen, hfield]
      refine if_congr ?_ rfl rfl
      rw [Bool.and_eq_true, decide_eq_true_eq]
    refine (if_pos ⟨hfit, hvalid.2 hv⟩).trans ?_
    rw [hraw]
    rfl

end Sys2Proof.Machine
end

section
/-! SUPPORT. The age of the records of a row, the row sweep, and the handlebar view (R118 to R121, R133 to R135). -/

namespace Sys2Proof.Machine

/-! ## The row sweep (R121) -/

/-- The row of an address after every row has been changed alike, the empty row to itself. -/
theorem State.row_map {s t : State} {f : Row → Row} (ht : t.pvu.table = s.pvu.table.map f) (hf : f .empty = .empty) (a : Nat) :
    t.row a = f (s.row a) := by
  unfold State.row
  rw [ht]
  rw [Vector.getElem?_map]
  cases s.pvu.table[a]? with
  | none => exact hf.symm
  | some r => rfl

/-- A record that the sweep keeps is a record within 30 s. -/
theorem keepYoung_some {α : Type} (now : Stamp) (x : α) (st : Stamp) :
    keepYoung now (some (x, st)) = if age now st ≤ Config.tRow then some (x, st) else none := by
  simp [keepYoung, Option.filter]

/-- The removal of old records leaves S_row as it was. -/
theorem sRowOf_keepYoung (p : Params) (now : Stamp) (r : Row) : sRowOf p now (r.keepYoung now) = sRowOf p now r := by
  cases hc : r.contrib with
  | none => simp [sRowOf, Row.keepYoung, keepYoung, hc]
  | some q =>
    obtain ⟨c, st⟩ := q
    have hkept : (r.keepYoung now).contrib = if age now st ≤ Config.tRow then some (c, st) else none := by
      show keepYoung now r.contrib = _
      rw [hc, keepYoung_some]
    unfold sRowOf
    rw [hkept, hc]
    by_cases hy : age now st ≤ Config.tRow
    · rw [if_pos hy]
    · rw [if_neg hy]
      exact (if_neg fun h => hy h.1).symm

/-- A record too old is EMPTY as an absent one is, so a reader sees no difference. -/
theorem freshnessAt_old {p : Params} {now st : Stamp} {lim : Nat} (h : ¬age now st ≤ Config.tRow) :
    freshnessAt p now st lim = .empty := if_pos (Nat.not_le.1 h)

theorem State.freshOf_keepYoung {α : Type} {s t : State} {a : Nat} (hp : t.prm = s.prm) (hclock : t.clock = s.clock)
    (hs : t.sRow a = s.sRow a) (rec : Option (α × Stamp)) : t.freshOf a (keepYoung s.clock rec) = s.freshOf a rec := by
  rcases rec with _ | ⟨x, st⟩
  · rfl
  · rw [keepYoung_some]
    split
    · simp only [State.freshOf, hp, hclock, hs]
    next hold => exact (freshnessAt_old hold).symm

/-! ## The classes of freshness (R120) -/

theorem State.freshOf_iff {α : Type} (s : State) (a : Nat) (x : α) (st : Stamp) :
    let g := age s.clock st
    let f := s.freshOf a (some (x, st))
    (f = .empty ↔ Config.tRow < g) ∧ (f = .fresh ↔ g ≤ Config.tRow ∧ g ≤ s.prm.fresh * 1000) ∧
      (f = .aging ↔ g ≤ Config.tRow ∧ s.prm.fresh * 1000 < g ∧ g ≤ s.sRow a) ∧
      (f = .stale ↔ g ≤ Config.tRow ∧ s.prm.fresh * 1000 < g ∧ s.sRow a < g) := by
  intro g f
  have hf : f = freshnessAt s.prm s.clock st (s.sRow a) := rfl
  rw [hf]
  unfold freshnessAt
  change (_ ↔ _ < g) ∧ _
  by_cases h1 : Config.tRow < g
  · rw [if_pos h1]
    simp [h1, Nat.not_le.2 h1]
  · rw [if_neg h1]
    by_cases h2 : g ≤ s.prm.fresh * 1000
    · rw [if_pos h2]
      simp [Nat.not_lt.1 h1, h1, h2, Nat.not_lt.2 h2]
    · rw [if_neg h2]
      by_cases h3 : g ≤ s.sRow a
      · rw [if_pos h3]
        simp [Nat.not_lt.1 h1, h1, h2, Nat.not_le.1 h2, h3, Nat.not_lt.2 h3]
      · rw [if_neg h3]
        simp [Nat.not_lt.1 h1, h1, h2, Nat.not_le.1 h2, h3, Nat.not_le.1 h3]

/-- S_row is the dormant limit exactly where the row's CONTRIB record is not EMPTY and reports DORMANT. -/
theorem State.sRow_iff (s : State) (a : Nat) :
    let dormant := ∃ c st, (s.row a).contrib = some (c, st) ∧ age s.clock st ≤ Config.tRow ∧ c.nodeState = 6
    (dormant → s.sRow a = Config.tDormantRow) ∧ (¬dormant → s.sRow a = s.prm.stale * 1000) := by
  intro dormant
  unfold State.sRow sRowOf
  constructor
  · rintro ⟨c, st, hc, hage, hstate⟩
    rw [hc]
    exact if_pos ⟨hage, hstate⟩
  · intro hno
    cases hc : (s.row a).contrib with
    | none => rfl
    | some q => exact if_neg fun h => hno ⟨q.1, q.2, hc, h⟩

/-- The CONTRIB record of an address, with the freshness of its stamp. -/
theorem State.contribAt_iff (s : State) (a : Nat) (c : Contrib) (f : Freshness) : s.contribAt a = some (c, f) ↔
    ∃ st, (s.row a).contrib = some (c, st) ∧ f = s.freshOf a (some (c, st)) := by
  unfold State.contribAt
  cases hc : (s.row a).contrib with
  | none => simp
  | some q =>
    obtain ⟨x, st⟩ := q
    simp only [Option.map_some, Option.some.injEq, Prod.mk.injEq]
    constructor
    · rintro ⟨rfl, rfl⟩
      exact ⟨st, ⟨rfl, rfl⟩, rfl⟩
    · rintro ⟨st', ⟨rfl, rfl⟩, rfl⟩
      exact ⟨rfl, rfl⟩

/-- Settles O39: the sweep keeps the records within 30 s, and no freshness depends on the others. -/
theorem rowSweepRemovesOldRecordsOnly : Obligations.RowSweepRemovesOldRecordsOnly := by
  refine ⟨fun s hlive => ?_, fun α s a x st => ⟨rfl, s.freshOf_iff a x st⟩, fun s a => s.sRow_iff a, ?_,
    fun s a c f => s.contribAt_iff a c f, ?_, ?_, ?_⟩
  · let t : State := { s with pvu := { s.pvu with table := s.pvu.table.map (Row.keepYoung s.clock), rowSweep := some 0 } }
    have hrow : ∀ a, t.row a = (s.row a).keepYoung s.clock := State.row_map rfl rfl
    have hs (a : Nat) : t.sRow a = s.sRow a := (congrArg (sRowOf _ _) (hrow a)).trans (sRowOf_keepYoung _ _ _)
    have hfresh {α : Type} (a : Nat) (rec : Option (α × Stamp)) : t.freshOf a (keepYoung s.clock rec) = s.freshOf a rec :=
      State.freshOf_keepYoung (s := s) (t := t) rfl rfl (hs a) rec
    refine ⟨t, congrArg Host.Outcome.next (if_pos hlive), rfl, fun a => ?_, fun a => ?_, rfl⟩
    · rw [hrow]
      exact ⟨rfl, rfl, rfl⟩
    · rw [hrow]
      exact ⟨hfresh a _, hfresh a _, hfresh a _⟩
  · intro f
    cases f <;> simp [Freshness.heard]
  · intro s r c f
    exact Option.bind_eq_some_iff
  · intro s c f
    exact Option.bind_eq_some_iff
  · intro s
    unfold State.partner
    cases s.role <;> rfl

/-! ## The handlebar view (R133 to R135) -/

/-- What the ramp does to a view: toward 0 by the step, stopping there. -/
theorem rampToward_spec (step : Nat) (x : Int) :
    (rampToward step x).natAbs = x.natAbs - step ∧ 0 ≤ rampToward step x * x := by
  unfold rampToward
  split
  next h =>
    refine ⟨by omega, Int.mul_nonneg (by omega) h⟩
  next h =>
    have h' : (0 : Int) ≤ -min 0 (x + step) * -x := Int.mul_nonneg (by omega) (by omega)
    refine ⟨by omega, by rwa [Int.neg_mul_neg] at h'⟩

/-- A view that is not RAMPING has no step. -/
theorem State.viewStep_still {s : State} (h : s.pvu.viewStatus ≠ .ramping) : s.viewStep = s := by
  unfold State.viewStep
  split
  next h' => exact absurd h' h
  · rfl

/-- A silent source takes a LIVE view to HELD, keeps a HELD one with its timer running, and leaves a RAMPING one (R134). -/
theorem State.viewSilent_live {s : State} (h : s.pvu.viewStatus = .live) :
    s.viewSilent.pvu = { s.pvu with viewStatus := .held, viewHold := some 0 } := by
  rw [State.viewSilent, h]
  dsimp only
  rw [State.setView_eq]

theorem State.viewSilent_held {s : State} (h : s.pvu.viewStatus = .held) :
    s.viewSilent.pvu = { s.pvu with viewStatus := .held, viewHold := some (s.pvu.viewHold.getD 0) } := by
  rw [State.viewSilent, h]
  dsimp only
  rw [State.setView_eq]
  rfl

theorem State.viewSilent_ramping {s : State} (h : s.pvu.viewStatus = .ramping) : s.viewSilent = s := by
  rw [State.viewSilent, h]

/-- A ramp step with a silent STEER row, and any other. -/
theorem State.rampStep_silent {s : State} (h : s.role.isTilt = true) (hr : s.riderFresh.heard = false) :
    s.rampStep = s.viewSilent.viewStep := by
  unfold State.rampStep
  rw [h, hr]
  rfl

theorem State.rampStep_heard {s : State} (h : s.role.isTilt = false ∨ s.riderFresh.heard = true) :
    s.rampStep = s.viewStep := by
  unfold State.rampStep
  rcases h with h | h <;> rw [h] <;> simp

/-- A RAMPING view takes its step, whether the row is silent or not. -/
theorem State.rampStep_ramping {s : State} (h : s.pvu.viewStatus = .ramping) :
    s.rampStep.pvu = { s.pvu with view := rampToward s.prm.rDelta s.pvu.view } := by
  have hstep : s.viewStep.pvu = { s.pvu with view := rampToward s.prm.rDelta s.pvu.view } := by
    unfold State.viewStep
    rw [h]
  unfold State.rampStep
  split
  · rw [State.viewSilent_ramping h, hstep]
  · exact hstep

/-- Settles O38: the silent row first, and then the step of a RAMPING view. -/
theorem handlebarViewHoldsAndRamps : Obligations.HandlebarViewHoldsAndRamps := by
  refine ⟨fun s hlive => ?_, fun s => ⟨fun a h => ?_, fun h => ?_⟩, fun s n hlive hhold hst => ?_⟩
  · let u := s.taken .handlebarRampStep
    have hsilent (hr : s.pvu.viewStatus ≠ .ramping) (ht : s.role.isTilt = true) (hf : s.riderFresh.heard = false) :
        u.rampStep = u.viewSilent := by
      have hheld : u.viewSilent.pvu.viewStatus = .held := by
        cases hst : s.pvu.viewStatus with
        | live => rw [State.viewSilent_live (s := u) hst]
        | held => rw [State.viewSilent_held (s := u) hst]
        | ramping => exact absurd hst hr
      rw [State.rampStep_silent (s := u) ht hf, State.viewStep_still (by rw [hheld]; decide)]
    refine ⟨u.rampStep, congrArg Host.Outcome.next (if_pos hlive), fun hr => ?_, fun hr => ?_, fun hst ht hf => ?_,
      fun hst ht hf => ?_, fun hr hrow => ?_, u.rampStep_handed, ?_⟩
    · rw [State.rampStep_ramping (s := u) hr]
      obtain ⟨habs, hsign⟩ := rampToward_spec s.prm.rDelta s.pvu.view
      exact ⟨hr, habs, hsign, rfl⟩
    · cases ht : s.role.isTilt
      · rw [State.rampStep_heard (s := u) (.inl ht), State.viewStep_still (s := u) hr]
        rfl
      · cases hf : s.riderFresh.heard
        · rw [hsilent hr ht hf, State.viewSilent_eq]
          rfl
        · rw [State.rampStep_heard (s := u) (.inr hf), State.viewStep_still (s := u) hr]
          rfl
    · rw [hsilent (by rw [hst]; decide) ht hf, State.viewSilent_live (s := u) hst]
      exact ⟨rfl, rfl⟩
    · rw [hsilent (by rw [hst]; decide) ht hf, State.viewSilent_held (s := u) hst]
      exact ⟨rfl, rfl⟩
    · rw [State.rampStep_heard (s := u) hrow, State.viewStep_still (s := u) hr]
      rfl
    · exact u.rampStep_eq
  · unfold State.riderFresh
    rw [h]
  · unfold State.riderFresh
    rw [h]
  · have hlimit : s.pvu.viewHold.atLimit (s.prm.hDelta * 1000) = decide (s.prm.hDelta * 1000 ≤ n) := by rw [hhold]; rfl
    refine ⟨fun hn => ?_, fun hn => ?_⟩
    · refine congrArg Host.Outcome.next ((if_pos ?_).trans ?_)
      · rw [hlimit, hlive, decide_eq_true hn]
        rfl
      · rw [State.setView_eq, hst]
        rfl
    · refine congrArg Host.Outcome.next (if_neg ?_)
      rw [hlimit, decide_eq_false (Nat.not_le.2 hn), Bool.false_and]
      exact Bool.false_ne_true

end Sys2Proof.Machine
end

section
/-! SUPPORT. The candidates of the consensus speed, which of them are used, and a re-evaluation (R118, R129 to R135). -/

namespace Sys2Proof.Machine

/-! ## Addresses and roles (R118) -/

theorem addresses_eq : addresses = List.range 15 := rfl

/-- The address of a role is the lowest that holds it. -/
theorem State.addrOf_iff (s : State) (r : Role) (a : Nat) :
    s.addrOf r = some a ↔ a < 15 ∧ s.roleOf a = r ∧ ∀ b, b < a → s.roleOf b ≠ r := by
  rw [State.addrOf, addresses_eq, List.find?_range_eq_some]
  simp [List.mem_range, and_left_comm]

theorem State.addrOf_none (s : State) (r : Role) : s.addrOf r = none ↔ ∀ a, a < 15 → s.roleOf a ≠ r := by
  rw [State.addrOf, addresses_eq, List.find?_range_eq_none]
  simp

theorem Role.isTs44_iff (r : Role) : r.isTs44 = true ↔ r = .tiltA ∨ r = .tiltB ∨ r = .steer := by
  cases r <;> simp [Role.isTs44]

theorem State.mem_peers (s : State) (a : Nat) : a ∈ s.peers ↔ a < 15 ∧ a ≠ s.cl.ownAddr.toNat ∧
    (s.roleOf a = .tiltA ∨ s.roleOf a = .tiltB ∨ s.roleOf a = .steer) := by
  rw [State.peers, addresses_eq, List.mem_filter, List.mem_range, ← Role.isTs44_iff]
  simp

theorem State.peers_pairwise (s : State) : s.peers.Pairwise (fun a b => a < b) :=
  List.Pairwise.filter _ (by rw [addresses_eq]; exact List.pairwise_lt_range)

/-! ## Which candidates are used (R130) -/

/-- A list with two elements that pass a test has them one after the other. -/
theorem two_le_countP_iff {α : Type} (p : α → Bool) (l : List α) : 2 ≤ l.countP p ↔
    ∃ before a between b after, l = before ++ a :: between ++ b :: after ∧ p a = true ∧ p b = true := by
  constructor
  · intro h
    induction l with
    | nil => simp at h
    | cons x l ih =>
      cases hx : p x with
      | false =>
        rw [List.countP_cons_of_neg (by simp [hx])] at h
        obtain ⟨before, a, between, b, after, rfl, ha, hb⟩ := ih h
        exact ⟨x :: before, a, between, b, after, rfl, ha, hb⟩
      | true =>
        rw [List.countP_cons_of_pos hx] at h
        obtain ⟨b, hmem, hb⟩ := List.countP_pos_iff.1 (Nat.le_of_succ_le_succ h)
        obtain ⟨between, after, rfl⟩ := List.append_of_mem hmem
        exact ⟨[], x, between, b, after, rfl, hx, hb⟩
  · rintro ⟨before, a, between, b, after, rfl, ha, hb⟩
    simp only [List.countP_append, List.countP_cons_of_pos ha, List.countP_cons_of_pos hb]
    omega

theorem Candidate.reads_iff (c : Candidate) (f : Freshness) : c.reads f = true ↔ c.value ≠ none ∧ c.fresh = f := by
  simp [Candidate.reads, Option.isSome_iff_ne_none]

/-- The used candidates: the FRESH ones where several are, and else the AGING ones too. -/
theorem usesCandidate_iff (l : List Candidate) (c : Candidate) : usesCandidate l c = true ↔
    c.reads .fresh = true ∨ ¬2 ≤ l.countP (fun x => x.reads .fresh) ∧ c.reads .aging = true := by
  rw [usesCandidate, Bool.or_eq_true, Bool.and_eq_true, decide_eq_true_eq, Nat.not_le]

/-! ## The candidates (R129) -/

theorem State.driveCandidate_some {s : State} {a : Nat} (h : s.addrOf .drive = some a) : s.driveCandidate =
    { addr := a, fresh := s.freshOf a (s.row a).speed,
      value := if s.freshOf a (s.row a).speed = .empty then none else (s.row a).speed.map (fun q => q.1) } := by
  rw [State.driveCandidate, h]

theorem State.driveCandidate_none {s : State} (h : s.addrOf .drive = none) : s.driveCandidate = .nobody := by
  rw [State.driveCandidate, h]

/-- A peer's candidate by its CONTRIB record. -/
theorem State.peerCandidate_spec (s : State) (a : Nat) :
    (s.peerCandidate a).fresh = s.freshOf a (s.row a).contrib ∧
      (∀ c st, (s.row a).contrib = some (c, st) → (s.peerCandidate a).fresh ≠ .empty → c.pulse ≠ 0xFFFF →
        (s.peerCandidate a).value = some (min c.pulse.toNat 2500)) ∧
      ((s.row a).contrib = none ∨ (s.peerCandidate a).fresh = .empty ∨
        (∃ c st, (s.row a).contrib = some (c, st) ∧ c.pulse = 0xFFFF) → (s.peerCandidate a).value = none) := by
  cases hc : (s.row a).contrib with
  | none =>
    have hp : s.peerCandidate a = { addr := a, value := none, fresh := .empty } := by
      rw [State.peerCandidate, State.contribAt, hc]
      rfl
    rw [hp]
    exact ⟨rfl, fun c st h => absurd h (by simp), fun _ => rfl⟩
  | some q =>
    obtain ⟨c, st⟩ := q
    have hp : s.peerCandidate a = {
        addr := a
        fresh := s.freshOf a (some (c, st))
        value := if s.freshOf a (some (c, st)) = .empty ∨ c.pulse = 0xFFFF then none else some (min c.pulse.toNat 2500) } := by
      rw [State.peerCandidate, State.contribAt, hc]
      rfl
    rw [hp]
    refine ⟨rfl, ?_, ?_⟩
    · rintro c' st' ⟨⟩ hfresh hpulse
      exact if_neg fun h => h.elim hfresh hpulse
    · rintro (h | h | ⟨c', st', ⟨⟩, hpulse⟩)
      · exact absurd h (by simp)
      · exact if_pos (.inl h)
      · exact if_pos (.inr hpulse)

/-- The candidate in the place of the peer of an index, nobody where there is none. -/
theorem State.peerPlace_spec (s : State) (k : Nat) {peer : Candidate}
    (hpeer : peer = (s.peers[k]?.map s.peerCandidate).getD .nobody) :
    (s.peers[k]? = none → peer.value = none) ∧
      (∀ a, s.peers[k]? = some a → peer.fresh = s.freshOf a (s.row a).contrib ∧
        (∀ c st, (s.row a).contrib = some (c, st) → peer.fresh ≠ .empty → c.pulse ≠ 0xFFFF →
          peer.value = some (min c.pulse.toNat 2500)) ∧
        ((s.row a).contrib = none ∨ peer.fresh = .empty ∨ (∃ c st, (s.row a).contrib = some (c, st) ∧ c.pulse = 0xFFFF) →
          peer.value = none)) := by
  subst hpeer
  refine ⟨fun h => ?_, fun a h => ?_⟩
  · rw [h]
    rfl
  · rw [h]
    exact s.peerCandidate_spec a

/-! ## A re-evaluation (R130 to R132) -/

/-- What a re-evaluation over some candidates makes of the speed, its status and its timer. -/
theorem Pvu.consensus_spec (p : Pvu) (expired : Bool) (cs : List Candidate) :
    (∀ v st, consensusOf (usedValues cs) = some (v, st) → (p.consensus expired cs).speed = v ∧
      (p.consensus expired cs).speedStatus = st ∧ (p.consensus expired cs).speedHold = none) ∧
    (consensusOf (usedValues cs) = none → (p.consensus expired cs).speed = p.speed ∧
      (p.speedStatus = .valid ∨ p.speedStatus = .single →
        (p.consensus expired cs).speedStatus = .held ∧ (p.consensus expired cs).speedHold = some 0) ∧
      (p.speedStatus = .held → expired = false →
        (p.consensus expired cs).speedStatus = .held ∧ (p.consensus expired cs).speedHold = p.speedHold) ∧
      (p.speedStatus = .held → expired = true →
        (p.consensus expired cs).speedStatus = .lost ∧ (p.consensus expired cs).speedHold = none) ∧
      (p.speedStatus = .lost →
        (p.consensus expired cs).speedStatus = .lost ∧ (p.consensus expired cs).speedHold = p.speedHold)) := by
  refine ⟨fun v st h => Pvu.consensus_some h, fun h => ?_⟩
  obtain ⟨hspeed, hstatus, hhold⟩ := Pvu.consensus_none (p := p) (expired := expired) h
  rw [hspeed, hstatus, hhold]
  refine ⟨rfl, ?_, ?_, ?_, ?_⟩
  · rintro (hs | hs) <;> rw [hs] <;> exact ⟨rfl, rfl⟩
  · rintro hs rfl
    rw [hs]
    exact ⟨rfl, rfl⟩
  · rintro hs rfl
    rw [hs]
    exact ⟨rfl, rfl⟩
  · intro hs
    rw [hs]
    exact ⟨rfl, rfl⟩

/-- The used flags of a re-evaluation are those of its four candidates. -/
theorem Pvu.consensus_used (p : Pvu) (expired : Bool) (s : State) :
    s.candidates.map (usesCandidate s.candidates) =
      [(p.consensus expired s.candidates).used.own, (p.consensus expired s.candidates).used.drive,
        (p.consensus expired s.candidates).used.peer1, (p.consensus expired s.candidates).used.peer2] := by
  unfold Pvu.consensus
  dsimp only
  split <;> rfl

/-! ## The view of the STEER role (R135) -/

/-- Setting the view to a good or a held reading of the own record. -/
theorem State.viewSweep_good {s : State} {d : Int} (h : s.mu.records.angle.state = .good)
    (hd : s.mu.records.angle.lastGood = some d) : s.viewSweep = s.setView d .live none := by
  rw [State.viewSweep, h, hd]

theorem State.viewSweep_held {s : State} {d : Int} (h : s.mu.records.angle.state = .held)
    (hd : s.mu.records.angle.lastGood = some d) : s.viewSweep = s.setView d .held none := by
  rw [State.viewSweep, h, hd]

theorem State.viewSweep_silent {s : State} (h : s.mu.records.angle.state = .failed ∨
    (s.mu.records.angle.state = .held ∧ s.mu.records.angle.lastGood = none)) : s.viewSweep = s.viewSilent := by
  rcases h with h | ⟨h, hd⟩
  · rw [State.viewSweep, h]
  · rw [State.viewSweep, h, hd]

/-- Setting the view hands on a change of its status. -/
theorem State.setView_handed (s : State) (x : Int) (st : ViewStatus) (hold : Timer) :
    (s.setView x st hold).handed = s.handed ++
      if (s.setView x st hold).pvu.viewStatus = s.pvu.viewStatus then [] else [.viewChange (s.setView x st hold).pvu.viewStatus] := by
  rw [State.setView_eq]

theorem State.viewSilent_handed (s : State) : s.viewSilent.handed = s.handed ++
    if s.viewSilent.pvu.viewStatus = s.pvu.viewStatus then [] else [.viewChange s.viewSilent.pvu.viewStatus] := by
  unfold State.viewSilent
  split
  · exact s.setView_handed _ _ _
  · exact s.setView_handed _ _ _
  · rw [if_pos rfl, List.append_nil]

theorem State.viewSweep_handed (s : State) : s.viewSweep.handed = s.handed ++
    if s.viewSweep.pvu.viewStatus = s.pvu.viewStatus then [] else [.viewChange s.viewSweep.pvu.viewStatus] := by
  unfold State.viewSweep
  split
  case h_1 | h_2 => exact s.setView_handed _ _ _
  case h_3 | h_4 => exact s.viewSilent_handed
  all_goals rw [if_pos rfl, List.append_nil]

/-! ## The two events of a re-evaluation (R132) -/

theorem State.reevaluate_mu (s : State) (e : Bool) : (s.reevaluate e).mu = s.mu := by rw [State.reevaluate_eq]

theorem State.reevaluate_role (s : State) (e : Bool) : (s.reevaluate e).role = s.role := by rw [State.reevaluate_eq]; rfl

/-- A re-evaluation keeps the view. -/
theorem State.reevaluate_view (s : State) (e : Bool) : (s.reevaluate e).pvu.view = s.pvu.view ∧
    (s.reevaluate e).pvu.viewStatus = s.pvu.viewStatus ∧ (s.reevaluate e).pvu.viewHold = s.pvu.viewHold := by
  rw [State.reevaluate_eq, Pvu.consensus_eq]
  exact ⟨rfl, rfl, rfl⟩

/-- A re-evaluation, and in the STEER role at a sweep notice the look at the own record after it. -/
def State.reevaluated (s : State) (expired : Bool) : State :=
  if s.role = .steer ∧ expired = false then (s.reevaluate expired).viewSweep else s.reevaluate expired

theorem exec_sweepNoticePvu {s : State} (n : SweepNotice) (h : s.nsc.node.live = true) :
    exec (.sweepNoticePvu n) s = .next ((s.taken (.sweepNoticePvu n)).reevaluated false) := by
  refine congrArg Host.Outcome.next ((if_pos h).trans ?_)
  exact if_congr (and_iff_left rfl).symm rfl rfl

theorem exec_speedHoldExpiry {s : State} {n : Nat} (h : s.nsc.node.live = true) (hhold : s.pvu.speedHold = some n)
    (hn : s.prm.hV * 1000 ≤ n) : exec .speedHoldExpiry s = .next (s.reevaluated true) := by
  refine congrArg Host.Outcome.next ((if_pos ?_).trans (if_neg fun h => Bool.noConfusion h.2).symm)
  rw [hhold, h]
  exact congrArg (· && true) (decide_eq_true hn)

/-- The speed and the used flags are those of the re-evaluation. -/
theorem State.reevaluated_speed (s : State) (e : Bool) : (s.reevaluated e).pvu.speed = (s.pvu.consensus e s.candidates).speed ∧
    (s.reevaluated e).pvu.speedStatus = (s.pvu.consensus e s.candidates).speedStatus ∧
    (s.reevaluated e).pvu.speedHold = (s.pvu.consensus e s.candidates).speedHold ∧
    (s.reevaluated e).pvu.used = (s.pvu.consensus e s.candidates).used := by
  unfold State.reevaluated
  split
  · rw [State.viewSweep_eq, State.reevaluate_eq]
    exact ⟨rfl, rfl, rfl, rfl⟩
  · rw [State.reevaluate_eq]
    exact ⟨rfl, rfl, rfl, rfl⟩

theorem State.reevaluated_eq (s : State) (e : Bool) : s.reevaluated e = { s with
    pvu := { (s.reevaluated e).pvu with
      table := s.pvu.table, roster := s.pvu.roster, processing := s.pvu.processing, rowSweep := s.pvu.rowSweep }
    handed := (s.reevaluated e).handed } := by
  unfold State.reevaluated
  split
  · rw [State.viewSweep_eq, State.reevaluate_eq, Pvu.consensus_eq]
  · rw [State.reevaluate_eq, Pvu.consensus_eq]

/-- The hand-offs: the change of the speed, and then the change of the view. -/
theorem State.reevaluated_handed (s : State) (e : Bool) : (s.reevaluated e).handed = s.handed ++
    (if (s.reevaluated e).pvu.speed = s.pvu.speed ∧ (s.reevaluated e).pvu.speedStatus = s.pvu.speedStatus then []
     else s.speedNotices (s.reevaluated e).pvu.speed (s.reevaluated e).pvu.speedStatus) ++
    (if (s.reevaluated e).pvu.viewStatus = s.pvu.viewStatus then [] else [.viewChange (s.reevaluated e).pvu.viewStatus]) := by
  obtain ⟨hspeed, hstatus, -, -⟩ := s.reevaluated_speed e
  obtain ⟨-, hview, -⟩ := s.reevaluate_view e
  rw [hspeed, hstatus]
  have hhanded := congrArg State.handed (s.reevaluate_eq e)
  unfold State.reevaluated
  split
  · rw [State.viewSweep_handed, hview, hhanded]
  · rw [hhanded, List.append_nil]

/-- Where the own record is not looked at, the view stays. -/
theorem State.reevaluated_keeps {s : State} {e : Bool} (h : s.role ≠ .steer ∨ e = true) :
    (s.reevaluated e).pvu.view = s.pvu.view ∧ (s.reevaluated e).pvu.viewStatus = s.pvu.viewStatus ∧
      (s.reevaluated e).pvu.viewHold = s.pvu.viewHold := by
  have hno : ¬(s.role = .steer ∧ e = false) := by
    rintro ⟨hr, rfl⟩
    exact h.elim (fun h => h hr) Bool.false_ne_true
  rw [State.reevaluated, if_neg hno]
  exact s.reevaluate_view e

/-- In the STEER role a sweep notice sets the view from the own record. -/
theorem State.reevaluated_steer {s : State} (h : s.role = .steer) : s.reevaluated false = (s.reevaluate false).viewSweep :=
  if_pos ⟨h, rfl⟩

/-- The view that a good or held own record gives. -/
theorem State.reevaluated_reading {s : State} {d : Int} (hr : s.role = .steer) (hd : s.mu.records.angle.lastGood = some d) :
    (s.mu.records.angle.state = .good → (s.reevaluated false).pvu.view = d ∧
      (s.reevaluated false).pvu.viewStatus = .live ∧ (s.reevaluated false).pvu.viewHold = none) ∧
    (s.mu.records.angle.state = .held → (s.reevaluated false).pvu.view = d ∧
      (s.reevaluated false).pvu.viewStatus = .held ∧ (s.reevaluated false).pvu.viewHold = none) := by
  have hmu := s.reevaluate_mu false
  rw [State.reevaluated_steer hr]
  refine ⟨fun h => ?_, fun h => ?_⟩
  · rw [State.viewSweep_good (by rw [hmu, h]) (by rw [hmu, hd]), State.setView_eq]
    exact ⟨rfl, rfl, rfl⟩
  · rw [State.viewSweep_held (by rw [hmu, h]) (by rw [hmu, hd]), State.setView_eq]
    exact ⟨rfl, rfl, rfl⟩

/-- The view under an own record that is silent. -/
theorem State.reevaluated_silent {s : State} (hr : s.role = .steer) (h : s.mu.records.angle.state = .failed ∨
    (s.mu.records.angle.state = .held ∧ s.mu.records.angle.lastGood = none)) :
    (s.reevaluated false).pvu.view = s.pvu.view ∧
    (s.pvu.viewStatus = .live →
      (s.reevaluated false).pvu.viewStatus = .held ∧ (s.reevaluated false).pvu.viewHold = some 0) ∧
    (s.pvu.viewStatus = .held → (s.reevaluated false).pvu.viewStatus = .held ∧
      (s.reevaluated false).pvu.viewHold = some (s.pvu.viewHold.getD 0)) ∧
    (s.pvu.viewStatus = .ramping → (s.reevaluated false).pvu.viewStatus = .ramping ∧
      (s.reevaluated false).pvu.viewHold = s.pvu.viewHold) := by
  obtain ⟨hview, hstatus, hhold⟩ := s.reevaluate_view false
  rw [State.reevaluated_steer hr, State.viewSweep_silent (by rw [s.reevaluate_mu]; exact h)]
  refine ⟨?_, fun hst => ?_, fun hst => ?_, fun hst => ?_⟩
  · rw [State.viewSilent_eq]
    exact hview
  · rw [State.viewSilent_live (hstatus.trans hst)]
    exact ⟨rfl, rfl⟩
  · rw [State.viewSilent_held (hstatus.trans hst), hhold]
    exact ⟨rfl, rfl⟩
  · rw [State.viewSilent_ramping (hstatus.trans hst)]
    exact ⟨hstatus.trans hst, hhold⟩

/-- The speed hold timer before its limit has no expiry. -/
theorem exec_speedHoldExpiry_early {s : State} {n : Nat} (hhold : s.pvu.speedHold = some n) (hn : n < s.prm.hV * 1000) :
    exec .speedHoldExpiry s = .next s := by
  have hlimit : s.pvu.speedHold.atLimit (s.prm.hV * 1000) = false := by
    rw [hhold]
    exact decide_eq_false (Nat.not_le.2 hn)
  refine congrArg Host.Outcome.next (if_neg ?_)
  rw [hlimit]
  exact Bool.false_ne_true

/-- Settles O37: both events are one re-evaluation over the candidates as they stand, read once for all. -/
theorem consensusIsReevaluated : Obligations.ConsensusIsReevaluated := by
  refine ⟨fun s c expiry hlive hc => ?_, fun s n => exec_speedHoldExpiry_early, fun s => ?_, fun l => ?_, fun s => ?_,
    fun s v st => ?_⟩
  · obtain ⟨u, hu, hhanded, hexec⟩ : ∃ u : State, u = { s with handed := u.handed } ∧
        u.handed = (if expiry = true then s.handed else s.handed.erase c) ∧ exec c s = .next (u.reevaluated expiry) := by
      obtain ⟨rfl, n, rfl⟩ | ⟨rfl, rfl, ⟨n, hhold, hn⟩, -⟩ := hc
      · exact ⟨_, rfl, rfl, exec_sweepNoticePvu n hlive⟩
      · exact ⟨s, rfl, rfl, exec_speedHoldExpiry hlive hhold hn⟩
    have hheld (he : expiry = true) : s.pvu.speedStatus = .held := by
      obtain ⟨h, -⟩ | ⟨-, -, -, h⟩ := hc
      · exact absurd (h.symm.trans he) Bool.false_ne_true
      · exact h
    have hpvu : u.pvu = s.pvu := by rw [hu]
    have hrole : u.role = s.role := by rw [hu]; rfl
    have hmu : u.mu = s.mu := by rw [hu]
    have hcands : u.candidates = s.candidates := by rw [hu]; rfl
    have hnotices : u.speedNotices = s.speedNotices := by rw [hu]; rfl
    obtain ⟨hspeed, hstatus, hhold, hused⟩ := u.reevaluated_speed expiry
    have hflags := Pvu.consensus_used u.pvu expiry u
    obtain ⟨hsome, hnone⟩ := u.pvu.consensus_spec expiry u.candidates
    rw [← hspeed, ← hstatus, ← hhold, hcands] at hsome hnone
    rw [← hused, hcands] at hflags
    rw [hpvu] at hnone
    refine ⟨_, hexec, hsome, fun hno => ?_, hflags, ?_, fun h => ?_, fun d hr he hd => ?_, fun hr he h => ?_, ?_⟩
    · obtain ⟨hkept, hlose, hstay, hexpire, hlost⟩ := hnone hno
      refine ⟨hkept, hlose, hstay, fun he => hexpire (hheld he) he, fun h => (hlost h).1⟩
    · have h := u.reevaluated_handed expiry
      rw [hhanded, hpvu, hnotices] at h
      exact h
    · have h' := State.reevaluated_keeps (s := u) (e := expiry) (hrole ▸ h)
      rw [hpvu] at h'
      exact h'
    · subst he
      have h' := State.reevaluated_reading (s := u) (hrole.trans hr) (by rw [hmu]; exact hd)
      rw [hmu] at h'
      exact h'
    · subst he
      have h' := State.reevaluated_silent (s := u) (hrole.trans hr) (by rw [hmu]; exact h)
      rw [hpvu] at h'
      exact h'
    · have h := u.reevaluated_eq expiry
      rw [hpvu] at h
      refine h.trans ?_
      rw [hu]
  · refine ⟨_, _, _, _, rfl, rfl, fun hv => ?_, fun h => ?_, fun a h => ?_, fun k peer hk => ?_⟩
    · exact if_pos (Option.isSome_iff_ne_none.2 hv)
    · rw [State.driveCandidate_none h]
      rfl
    · rw [State.driveCandidate_some h]
      exact ⟨rfl, rfl⟩
    · match k, hk with
      | 0, hk => exact s.peerPlace_spec 0 (Option.some.inj hk).symm
      | 1, hk => exact s.peerPlace_spec 1 (Option.some.inj hk).symm
  · dsimp only
    have hseveral := two_le_countP_iff (fun x : Candidate => x.reads .fresh) l
    simp only [Candidate.reads_iff] at hseveral
    rw [← hseveral]
    refine ⟨fun h c => ?_, fun h c => ?_, rfl⟩
    · rw [usesCandidate_iff, Candidate.reads_iff]
      exact or_iff_left fun h' => h'.1 h
    · rw [usesCandidate_iff, Candidate.reads_iff, Candidate.reads_iff]
      exact or_congr_right (and_iff_right h)
  · exact ⟨s.addrOf_iff, s.addrOf_none, s.mem_peers, s.peers_pairwise⟩
  · unfold State.speedNotices State.hasBcu
    by_cases hr : s.role = .steer
    · rw [hr]
      rfl
    · rw [if_neg hr, if_pos (bne_iff_ne.2 hr)]
      rfl

end Sys2Proof.Machine
end

section
/-! SUPPORT. FRAME_DONE: what a frame does before the re-evaluation, and the end that every frame has (R123 to R126). -/

namespace Sys2Proof.Machine

/-! ## The end of a frame: the re-evaluation, the notice, the next head (R123) -/

/-- A state that differs from another in nothing the candidates read has the same candidates. -/
theorem State.candidates_congr {s : State} {p : Pvu} {b : Bi} {l : List Instr} (ht : p.table = s.pvu.table)
    (hr : p.roster = s.pvu.roster) : ({ s with pvu := p, bi := b, handed := l } : State).candidates = s.candidates := by
  obtain ⟨roster, table, processing, speed, speedStatus, speedHold, used, view, viewStatus, viewHold, rowSweep⟩ := p
  obtain rfl : table = _ := ht
  obtain rfl : roster = _ := hr
  rfl

/-- The end of a frame after its effects: the consensus re-evaluated, what is handed on last, and the next head taken. -/
def State.finish (u : State) (last : List Instr) : State := ((u.reevaluate false).hand last).nextFrame

theorem State.finish_eq (u : State) (last : List Instr) : u.finish last = { u with
    pvu := { u.pvu.consensus false u.candidates with processing := u.bi.rfq.head?.map (fun g => (g, 0)) }
    bi := { u.bi with rfq := u.bi.rfq.tail }
    handed := u.handed ++ (if (u.pvu.consensus false u.candidates).speed = u.pvu.speed ∧
        (u.pvu.consensus false u.candidates).speedStatus = u.pvu.speedStatus then []
      else u.speedNotices (u.pvu.consensus false u.candidates).speed (u.pvu.consensus false u.candidates).speedStatus) ++ last } := by
  rw [State.finish, State.nextFrame_eq, State.reevaluate_eq]
  rfl

theorem State.finish_candidates (u : State) (last : List Instr) : (u.finish last).candidates = u.candidates := by
  rw [State.finish_eq]
  have h := u.pvu.consensus_eq false u.candidates
  refine State.candidates_congr ?_ ?_
  · exact (congrArg Pvu.table h :)
  · exact (congrArg Pvu.roster h :)

/-- What the end of a frame leaves of the peer view. -/
theorem State.finish_pvu (u : State) (last : List Instr) : (u.finish last).pvu = { u.pvu with
    speed := (u.finish last).pvu.speed
    speedStatus := (u.finish last).pvu.speedStatus
    speedHold := (u.finish last).pvu.speedHold
    used := (u.finish last).pvu.used
    processing := u.bi.rfq.head?.map (fun g => (g, 0)) } := by
  rw [State.finish_eq, Pvu.consensus_eq]

/-- The speed after a frame: the consensus of the candidates as they then stand, or a lost one (R130, R131). -/
theorem State.finish_speed (u : State) (last : List Instr) :
    (∀ v st, consensusOf (usedValues (u.finish last).candidates) = some (v, st) → (u.finish last).pvu.speed = v ∧
      (u.finish last).pvu.speedStatus = st ∧ (u.finish last).pvu.speedHold = none) ∧
    (consensusOf (usedValues (u.finish last).candidates) = none → (u.finish last).pvu.speed = u.pvu.speed ∧
      (u.pvu.speedStatus = .valid ∨ u.pvu.speedStatus = .single →
        (u.finish last).pvu.speedStatus = .held ∧ (u.finish last).pvu.speedHold = some 0) ∧
      (u.pvu.speedStatus = .held ∨ u.pvu.speedStatus = .lost →
        (u.finish last).pvu.speedStatus = u.pvu.speedStatus ∧ (u.finish last).pvu.speedHold = u.pvu.speedHold)) ∧
    (u.finish last).candidates.map (usesCandidate (u.finish last).candidates) =
      [(u.finish last).pvu.used.own, (u.finish last).pvu.used.drive, (u.finish last).pvu.used.peer1,
        (u.finish last).pvu.used.peer2] := by
  obtain ⟨hsome, hnone⟩ := u.pvu.consensus_spec false u.candidates
  have hpvu := congrArg State.pvu (u.finish_eq last)
  rw [State.finish_candidates, hpvu]
  refine ⟨hsome, fun h => ?_, Pvu.consensus_used _ _ _⟩
  obtain ⟨hkept, hlose, hheld, -, hlost⟩ := hnone h
  refine ⟨hkept, hlose, ?_⟩
  rintro (hst | hst) <;> rw [hst]
  · exact hheld hst rfl
  · exact hlost hst

/-- The hand-offs of a frame's end. -/
theorem State.finish_handed (u : State) (last : List Instr) : (u.finish last).handed = u.handed ++
    (if (u.finish last).pvu.speed = u.pvu.speed ∧ (u.finish last).pvu.speedStatus = u.pvu.speedStatus then []
     else u.speedNotices (u.finish last).pvu.speed (u.finish last).pvu.speedStatus) ++ last := by
  rw [State.finish_eq]

/-! ## The effects of a frame (R124 to R126) -/

/-- The effects of a frame before the re-evaluation. -/
def State.frameWork (s : State) (f : RxFrame) : State :=
  if lengthFits f.kind f.payload.length = false then s
  else if s.roleFits f = false then s.hand [.conditionReport .linkConflict true]
  else if f.kind.periodic then s.applyPeriodic f else s.hand (s.commandOf f)

/-- The notice of a frame that passes the checks. -/
def State.frameNotices (s : State) (f : RxFrame) : List Instr :=
  if lengthFits f.kind f.payload.length = true ∧ s.roleFits f = true then [.frameNotice f.src f.kind] else []

/-- FRAME_DONE is the effects of the frame and then its end. -/
theorem exec_frameDone {s : State} {f : RxFrame} {n : Nat} (hlive : s.nsc.node.live = true)
    (hp : s.pvu.processing = some (f, n)) : exec .frameDone s = .next ((s.frameWork f).finish (s.frameNotices f)) := by
  have hexec : exec .frameDone s = .next (s.applyFrame f).nextFrame := by
    show Host.Outcome.next _ = _
    rw [hp]
    exact congrArg Host.Outcome.next (if_pos hlive)
  have hnil (u : State) : u.hand [] = u := congrArg (fun l => { u with handed := l }) (List.append_nil u.handed)
  rw [hexec]
  unfold State.applyFrame State.finish State.frameWork State.frameNotices
  by_cases hfit : lengthFits f.kind f.payload.length = false
  · rw [if_pos hfit, if_pos hfit, if_neg fun h => Bool.false_ne_true (hfit.symm.trans h.1), hnil]
  · by_cases hrole : s.roleFits f = false
    · rw [if_neg hfit, if_neg hfit, if_pos hrole, if_pos hrole, if_neg fun h => Bool.false_ne_true (hrole.symm.trans h.2), hnil]
    · rw [if_neg hfit, if_neg hfit, if_neg hrole, if_neg hrole,
        if_pos (And.intro (Bool.eq_true_of_not_eq_false hfit) (Bool.eq_true_of_not_eq_false hrole))]

/-- A periodic frame changes the table, the view and the hand-offs; its effects hand on at most the view change. -/
theorem State.applyPeriodic_handed (s : State) (f : RxFrame) : (s.applyPeriodic f).handed = s.handed ++
    if (s.applyPeriodic f).pvu.viewStatus = s.pvu.viewStatus then [] else [.viewChange (s.applyPeriodic f).pvu.viewStatus] := by
  unfold State.applyPeriodic
  dsimp only
  split
  · exact State.setView_handed _ _ _ _
  · exact ((congrArg (s.handed ++ ·) (if_pos rfl)).trans (List.append_nil _)).symm

/-- The table after a periodic frame holds the row of its source replaced. -/
theorem State.applyPeriodic_table (s : State) (f : RxFrame) : (s.applyPeriodic f).pvu.table =
    (s.setRow f.src.toNat ((s.row f.src.toNat).replace s.prm f)).pvu.table := by
  unfold State.applyPeriodic
  dsimp only
  split
  · rw [State.viewRider_eq]
  · rfl

/-- The view after a RIDER of the STEER station in a tilt role, and after any other frame (R125, R134). -/
theorem State.applyPeriodic_rider {s : State} {f : RxFrame} (h : s.role.isTilt = true ∧ f.kind = .rider ∧ s.roleOf f.src.toNat = .steer) :
    (s.applyPeriodic f).pvu.view = clampMag 450 (Rider.ofBytes f.payload).delta.toInt ∧
      (s.applyPeriodic f).pvu.viewHold = none ∧
      (s.applyPeriodic f).pvu.viewStatus = if (Rider.ofBytes f.payload).angleState = 0 then .live else .held := by
  rw [State.applyPeriodic, if_pos h, State.viewRider_eq]
  exact ⟨rfl, rfl, rfl⟩

theorem State.applyPeriodic_other {s : State} {f : RxFrame}
    (h : ¬(s.role.isTilt = true ∧ f.kind = .rider ∧ s.roleOf f.src.toNat = .steer)) :
    s.applyPeriodic f = s.setRow f.src.toNat ((s.row f.src.toNat).replace s.prm f) := if_neg h

/-- The effects of a frame change the table, the view and the hand-offs, to which they add. -/
theorem State.frameWork_eq (s : State) (f : RxFrame) : ∃ l, s.frameWork f = { s with
    pvu := { s.pvu with
      table := (s.frameWork f).pvu.table
      view := (s.frameWork f).pvu.view
      viewStatus := (s.frameWork f).pvu.viewStatus
      viewHold := (s.frameWork f).pvu.viewHold }
    handed := s.handed ++ l } := by
  unfold State.frameWork
  split
  · exact ⟨[], by rw [List.append_nil]⟩
  · split
    · exact ⟨_, rfl⟩
    · split
      · refine ⟨if (s.applyPeriodic f).pvu.viewStatus = s.pvu.viewStatus then []
          else [.viewChange (s.applyPeriodic f).pvu.viewStatus], ?_⟩
        rw [← State.applyPeriodic_handed]
        exact s.applyPeriodic_eq f
      · exact ⟨_, rfl⟩

/-- What the end of a frame leaves of the state before the frame. -/
theorem State.finish_frame {s u : State} {l : List Instr} (h : u = { s with
      pvu := { s.pvu with
        table := u.pvu.table, view := u.pvu.view, viewStatus := u.pvu.viewStatus, viewHold := u.pvu.viewHold }
      handed := l }) (last : List Instr) : u.finish last = { s with
    pvu := { (u.finish last).pvu with roster := s.pvu.roster, rowSweep := s.pvu.rowSweep }
    bi := (u.finish last).bi
    handed := (u.finish last).handed } := by
  have hpvu := u.finish_pvu last
  have hroster : (u.finish last).pvu.roster = s.pvu.roster := (congrArg Pvu.roster hpvu).trans (by rw [h])
  have hsweep : (u.finish last).pvu.rowSweep = s.pvu.rowSweep := (congrArg Pvu.rowSweep hpvu).trans (by rw [h])
  rw [← hroster, ← hsweep]
  have heq : u.finish last = { u with
      pvu := (u.finish last).pvu, bi := (u.finish last).bi, handed := (u.finish last).handed } := by rw [State.finish_eq]
  exact heq.trans (congrArg (fun x : State => { x with
    pvu := (u.finish last).pvu, bi := (u.finish last).bi, handed := (u.finish last).handed }) h)

/-- A row is a row of the table. -/
theorem State.row_of_table {s t : State} (h : t.pvu.table = s.pvu.table) (a : Nat) : t.row a = s.row a := by
  unfold State.row
  rw [h]

/-- Settles O33: the effects of a periodic frame, and the end that every frame has. -/
theorem periodicFrameIsApplied : Obligations.PeriodicFrameIsApplied := by
  intro s f n hlive hp hsrc hperiodic hfit hrole
  have hwork : s.frameWork f = s.applyPeriodic f := by
    rw [State.frameWork, if_neg (by simp [hfit]), if_neg (by simp [hrole]), if_pos hperiodic]
  have hnotice : s.frameNotices f = [.frameNotice f.src f.kind] := if_pos ⟨hfit, hrole⟩
  have hexec := exec_frameDone hlive hp
  rw [hwork, hnotice] at hexec
  have heq := s.applyPeriodic_eq f
  have hrow (a : Nat) : ((s.applyPeriodic f).finish [.frameNotice f.src f.kind]).row a =
      (s.setRow f.src.toNat ((s.row f.src.toNat).replace s.prm f)).row a :=
    State.row_of_table ((congrArg Pvu.table (State.finish_pvu _ _)).trans (s.applyPeriodic_table f)) a
  have hown : ((s.applyPeriodic f).finish [.frameNotice f.src f.kind]).row f.src.toNat =
      (s.row f.src.toNat).replace s.prm f := (hrow _).trans (s.row_setRow_self _ (by
    have h15 : f.src.toNat ≠ 15 := fun h => hsrc (BitVec.eq_of_toNat_eq h)
    have := f.src.isLt
    omega))
  have hspeed : (s.applyPeriodic f).pvu.speed = s.pvu.speed := by rw [heq]
  have hstatus : (s.applyPeriodic f).pvu.speedStatus = s.pvu.speedStatus := by rw [heq]
  have hhold : (s.applyPeriodic f).pvu.speedHold = s.pvu.speedHold := by rw [heq]
  have hrfq : (s.applyPeriodic f).bi = s.bi := by rw [heq]
  have hnotices : (s.applyPeriodic f).speedNotices = s.speedNotices := by rw [heq]; rfl
  have hpvu := (s.applyPeriodic f).finish_pvu [.frameNotice f.src f.kind]
  have hview : ((s.applyPeriodic f).finish [.frameNotice f.src f.kind]).pvu.view = (s.applyPeriodic f).pvu.view :=
    (congrArg Pvu.view hpvu :)
  have hviewStatus : ((s.applyPeriodic f).finish [.frameNotice f.src f.kind]).pvu.viewStatus =
      (s.applyPeriodic f).pvu.viewStatus := (congrArg Pvu.viewStatus hpvu :)
  have hviewHold : ((s.applyPeriodic f).finish [.frameNotice f.src f.kind]).pvu.viewHold = (s.applyPeriodic f).pvu.viewHold :=
    (congrArg Pvu.viewHold hpvu :)
  obtain ⟨hsome, hnone, hflags⟩ := (s.applyPeriodic f).finish_speed [.frameNotice f.src f.kind]
  rw [hspeed, hstatus, hhold] at hnone
  have hhanded := (s.applyPeriodic f).finish_handed [.frameNotice f.src f.kind]
  rw [s.applyPeriodic_handed, hspeed, hstatus, hnotices, ← hviewStatus] at hhanded
  refine ⟨_, hexec, fun hk => ?_, fun hk => ?_, fun hk v hv => ?_, fun hk hv => ?_, fun a ha => ?_, fun ht hk hr => ?_,
    fun hother => ?_, hsome, hnone, hflags, hhanded, ?_, ?_, ?_⟩
  · rw [hown, Row.replace, hk]
  · rw [hown, Row.replace, hk]
  · rw [hown, Row.replace, hk]
    dsimp only
    rw [hv]
  · rw [hown, Row.replace, hk]
    dsimp only
    rw [hv]
  · rw [hrow, State.row_setRow_ne _ _ ha]
  · rw [hview, hviewStatus, hviewHold]
    exact State.applyPeriodic_rider ⟨ht, hk, hr⟩
  · have hno : ¬(s.role.isTilt = true ∧ f.kind = .rider ∧ s.roleOf f.src.toNat = .steer) := by
      rintro ⟨ht, hk, hr⟩
      rcases hother with h | h | h
      · exact Bool.false_ne_true (h.symm.trans ht)
      · exact h hk
      · exact h hr
    rw [hview, hviewStatus, hviewHold, State.applyPeriodic_other hno]
    exact ⟨rfl, rfl, rfl⟩
  · rw [← hrfq]
    exact congrArg Pvu.processing hpvu
  · rw [State.finish_eq, ← hrfq]
  · exact State.finish_frame heq _

/-- A command frame that fits hands its command on. -/
theorem State.frameWork_command {s : State} {f : RxFrame} (hfit : lengthFits f.kind f.payload.length = true)
    (hk : f.kind.periodic = false) : s.frameWork f = s.hand (s.commandOf f) ∧ s.frameNotices f = [.frameNotice f.src f.kind] := by
  have hrole : s.roleFits f = true := by
    have hne : f.kind ≠ .contrib := by
      rintro h
      rw [h] at hk
      exact Bool.noConfusion hk
    simp [State.roleFits, hne]
  refine ⟨?_, if_pos ⟨hfit, hrole⟩⟩
  rw [State.frameWork, if_neg (by simp [hfit]), if_neg (by simp [hrole]), if_neg (by simp [hk])]

/-- A frame of a wrong length has no effect. -/
theorem State.frameWork_misfit {s : State} {f : RxFrame} (hfit : ¬lengthFits f.kind f.payload.length = true) :
    s.frameWork f = s.hand [] ∧ s.frameNotices f = [] := by
  refine ⟨?_, if_neg fun h => hfit h.1⟩
  rw [State.frameWork, if_pos (by simpa using hfit)]
  exact (congrArg (fun l => { s with handed := l }) (List.append_nil s.handed)).symm

/-- A CONTRIB of a foreign role is reported and has no other effect. -/
theorem State.frameWork_conflict {s : State} {f : RxFrame} (hfit : lengthFits f.kind f.payload.length = true)
    (hk : f.kind = .contrib) (hrole : (Contrib.ofBytes f.payload).role.toNat ≠ roleCode (s.roleOf f.src.toNat)) :
    s.frameWork f = s.hand [.conditionReport .linkConflict true] ∧ s.frameNotices f = [] := by
  have hno : s.roleFits f = false := by simp [State.roleFits, hk, hrole]
  refine ⟨?_, if_neg fun h => Bool.false_ne_true (hno.symm.trans h.2)⟩
  rw [State.frameWork, if_neg (by simp [hfit]), if_pos hno]

/-- Settles O34: a command frame and a discarded one have no effect but what they hand on. -/
theorem commandFrameIsHandedAndBadFrameDiscarded : Obligations.CommandFrameIsHandedAndBadFrameDiscarded := by
  intro s f n hlive hp
  obtain ⟨m, hm⟩ := s.frameWork_eq f
  have hexec := exec_frameDone hlive hp
  have hspeed : (s.frameWork f).pvu.speed = s.pvu.speed := by rw [hm]
  have hstatus : (s.frameWork f).pvu.speedStatus = s.pvu.speedStatus := by rw [hm]
  have hhold : (s.frameWork f).pvu.speedHold = s.pvu.speedHold := by rw [hm]
  have hrfq : (s.frameWork f).bi = s.bi := by rw [hm]
  have hhandedWork : (s.frameWork f).handed = s.handed ++ m := by rw [hm]
  have hnotices : (s.frameWork f).speedNotices = s.speedNotices := by rw [hm]; rfl
  have hpvu := (s.frameWork f).finish_pvu (s.frameNotices f)
  obtain ⟨hsome, hnone, hflags⟩ := (s.frameWork f).finish_speed (s.frameNotices f)
  rw [hspeed, hstatus, hhold] at hnone
  have hhanded := (s.frameWork f).finish_handed (s.frameNotices f)
  rw [hhandedWork, hspeed, hstatus, hnotices, List.append_assoc, List.append_assoc] at hhanded
  have hprocessing := congrArg Pvu.processing hpvu
  rw [hrfq] at hprocessing
  have hunread (x : List Instr) (h : s.frameWork f = s.hand x) : m = x ∧
      ((s.frameWork f).finish (s.frameNotices f)).pvu.table = s.pvu.table ∧
      ((s.frameWork f).finish (s.frameNotices f)).pvu.view = s.pvu.view ∧
      ((s.frameWork f).finish (s.frameNotices f)).pvu.viewStatus = s.pvu.viewStatus ∧
      ((s.frameWork f).finish (s.frameNotices f)).pvu.viewHold = s.pvu.viewHold := by
    refine ⟨List.append_cancel_left (hhandedWork.symm.trans (congrArg State.handed h)), ?_⟩
    rw [hpvu, h]
    exact ⟨rfl, rfl, rfl, rfl⟩
  have hcommand (hk : f.kind.periodic = false) (hfit : lengthFits f.kind f.payload.length = true) :
      m = s.commandOf f ∧ s.frameNotices f = [.frameNotice f.src f.kind] := by
    obtain ⟨hwork, hnotice⟩ := State.frameWork_command (s := s) hfit hk
    exact ⟨(hunread _ hwork).1, hnotice⟩
  refine ⟨_, _, hexec, hhanded, ?_, hprocessing, ⟨fun hk hl => ?_, fun hk hl => ?_, fun hk hl => ?_, fun d hk hl hd => ?_,
    fun d hk hl hd => ?_, fun hk => ?_, fun hfit => ?_, fun hfit hk hrole => ?_⟩, hsome, hnone, hflags,
    State.finish_frame hm _⟩
  · rw [State.finish_eq, hrfq]
  · obtain ⟨hm, hnotice⟩ := hcommand (by rw [hk]; rfl) (by rw [hk, hl]; rfl)
    rw [hm, hnotice, State.commandOf, hk]
    rfl
  · obtain ⟨hm, hnotice⟩ := hcommand (by rw [hk]; rfl) (by rw [hk, hl]; rfl)
    rw [hm, hnotice, State.commandOf, hk]
    rfl
  · obtain ⟨hm, hnotice⟩ := hcommand (by rw [hk]; rfl) (by rw [hk, hl]; rfl)
    rw [hm, hnotice, State.commandOf, hk]
    rfl
  · obtain ⟨hm, hnotice⟩ := hcommand (by rw [hk]; rfl) (by rw [hk, hl]; rfl)
    rw [hm, hnotice, State.commandOf, hk, State.serviceHead, hd]
    rfl
  · obtain ⟨hm, hnotice⟩ := hcommand (by rw [hk]; rfl) (by rw [hk, hl]; rfl)
    rw [hm, hnotice, State.commandOf, hk, State.serviceHead, hd]
    rfl
  · by_cases hfit : lengthFits f.kind f.payload.length = true
    · exact (hunread _ (State.frameWork_command hfit hk).1).2
    · exact (hunread _ (State.frameWork_misfit hfit).1).2
  · obtain ⟨hwork, hnotice⟩ := State.frameWork_misfit (s := s) hfit
    obtain ⟨hm, huntouched⟩ := hunread _ hwork
    refine ⟨huntouched, ?_⟩
    rw [hm, hnotice, List.append_nil, List.nil_append]
  · obtain ⟨hwork, hnotice⟩ := State.frameWork_conflict hfit hk hrole
    obtain ⟨hm, huntouched⟩ := hunread _ hwork
    refine ⟨huntouched, ?_⟩
    rw [hm, hnotice, List.append_nil]
    rfl

end Sys2Proof.Machine
end

section
/-! SUPPORT. The receiver at each mark, the receive queue at an offer, and the start of a transmission (R157 to R167). -/

namespace Sys2Proof.Machine

/-! ## The line and the receiver -/

theorem State.setRx_same {s : State} {r : Receiver} (h : s.bi.rx = r) : s.setRx r = s := by
  subst h
  rfl

/-- A receiver that is off reads nothing, and one that is on reads the level. -/
theorem State.readLine_off {s : State} (h : s.bi.rx = .off) (level : Bool) : s.readLine level = s := if_pos h

theorem State.readLine_on {s : State} (h : s.bi.rx ≠ .off) (level : Bool) :
    s.readLine level = { s with bi := { s.bi with sbs := level } } := if_neg h

/-- The character or condition taken: the level read last, and the receiver. -/
theorem State.readLine_setRx (s : State) (level : Bool) (r : Receiver) : (s.readLine level).setRx r =
    { s with bi := { s.bi with rx := r, sbs := if s.bi.rx = .off then s.bi.sbs else level } } := by
  rw [State.readLine_eq]
  rfl

/-- Settles O46: each row of R161's table by the receiver's state. -/
theorem receiverFollowsTheTable : Obligations.ReceiverFollowsTheTable := by
  refine ⟨fun s b => ?_, fun s n => ?_, fun s c hc => ?_, fun s => ?_⟩
  · refine ⟨_, congrArg Host.Outcome.next (s.readLine_setRx true _), rfl, fun h => ?_, fun h => ?_, fun a ha => ?_⟩
    · show rxData _ _ s.bi.rx = _
      rw [h]
      rfl
    · show rxData _ _ s.bi.rx = _
      rcases h with h | h | h <;> rw [h] <;> rfl
    · intro n stranger
      have hrx : rxData s.cl.ownAddr b s.bi.rx = (expandCopies s.cl.ownAddr b n { a with run := none }).receiver := by
        rw [ha]
        rfl
      show (_ → _ → rxData _ _ s.bi.rx = _) ∧ (_ → _ → _ → rxData _ _ s.bi.rx = _) ∧ (_ → _ → rxData _ _ s.bi.rx = _)
      rw [hrx]
      refine ⟨fun hn hs => ?_, fun hs hl ha => ?_, fun hs hl => ?_⟩
      · exact congrArg Expansion.receiver (expandCopies_notForUs _ _ _ { a with run := none } hs hn)
      · exact congrArg Expansion.receiver (expandCopies_formatError _ _ _ { a with run := none } hs hl ha)
      · exact congrArg Expansion.receiver (expandCopies_going _ _ _ { a with run := none } hs hl)
  · refine ⟨_, congrArg Host.Outcome.next (s.readLine_setRx true _), rfl, fun h => ?_, fun h => ?_, fun a ha hrun => ?_,
      fun a k ha hrun => ?_⟩
    · show rxRun _ s.bi.rx = _
      rw [h]
      rfl
    · show rxRun _ s.bi.rx = _
      rcases h with h | h | h <;> rw [h] <;> rfl
    · show rxRun _ s.bi.rx = _
      rw [ha]
      exact if_neg (by rw [hrun]; exact Bool.false_ne_true)
    · show rxRun _ s.bi.rx = _
      rw [ha]
      exact if_pos (by rw [hrun]; rfl)
  · have hexec : exec c s = .next ((s.readLine (decide (c ≠ .framingError ∧ c ≠ .lineBreak))).setRx (rxAbandon s.bi.rx)) := by
      obtain ⟨b, rfl⟩ | rfl | rfl := hc
      · rw [decide_eq_true ⟨fun h => Instr.noConfusion h, fun h => Instr.noConfusion h⟩]
        rfl
      · rw [decide_eq_false fun h => h.1 rfl]
        rfl
      · rw [decide_eq_false fun h => h.2 rfl]
        rfl
    rw [hexec]
    refine ⟨fun h => ?_, fun h => ?_⟩
    · rw [State.readLine_off h]
      exact congrArg Host.Outcome.next (State.setRx_same (by rw [h]; rfl))
    · have hhunt : rxAbandon s.bi.rx = .hunt := by
        cases hrx : s.bi.rx with
        | off => exact absurd hrx h
        | hunt | waitOpen | inFrame a | skip => rfl
      rw [State.readLine_on h, hhunt]
      rfl
  · refine ⟨_, congrArg Host.Outcome.next (s.readLine_setRx true _), rfl, fun h => ?_, fun h => ?_⟩
    · show rxTimeout s.bi.rx = _
      obtain h | ⟨a, h⟩ := h <;> rw [h] <;> rfl
    · show rxTimeout s.bi.rx = _
      rcases h with h | h | h <;> rw [h] <;> rfl

/-! ## An OPEN (R162) -/

/-- The OPEN byte that the own transmitter has just sent. -/
theorem State.sendsOpen_iff (s : State) (b : Byte) : s.sendsOpen b = true ↔
    ∃ f, s.bi.tx = .sending ∧ s.bi.inFlight = some f ∧ openByte f.kind s.cl.ownAddr = b := by
  unfold State.sendsOpen
  split
  next f htx hf => simp [htx, hf]
  next hno =>
    refine iff_of_false Bool.false_ne_true ?_
    rintro ⟨f, htx, hf, -⟩
    exact hno f htx hf

/-- Which roles may send a kind (R162). -/
theorem accepts_iff (k : FrameKind) (r : Role) : accepts k r = true ↔
    (k = .halt ∧ r ≠ .absent) ∨ ((k = .override ∨ k = .release) ∧ (r = .console ∨ r = .service)) ∨
      (k = .rider ∧ r = .steer) ∨ (k = .contrib ∧ (r = .tiltA ∨ r = .tiltB ∨ r = .steer)) ∨
      (k = .speed ∧ r = .drive) ∨ ((k = .query ∨ k = .clear) ∧ r = .service) := by
  cases k <;> simp [accepts, Role.isTs44_iff]

/-- An OPEN that the table takes, and one that it does not. -/
theorem acceptOpen_taken {s : State} {b : Byte} {k : FrameKind} (hk : kindOfNat (openKind b) = some k)
    (ha : accepts k (s.roleOf (openSrc b).toNat) = true) : acceptOpen s b = .inFrame (openAssembler (openSrc b) k b) := by
  rw [acceptOpen, hk]
  exact if_pos ha

theorem acceptOpen_skipped {s : State} {b : Byte}
    (h : ∀ k, kindOfNat (openKind b) = some k → ¬accepts k (s.roleOf (openSrc b).toNat) = true) : acceptOpen s b = .skip := by
  unfold acceptOpen
  split
  · rfl
  next k hk => exact if_neg (h k hk)

/-- An OPEN in WAIT_OPEN. -/
theorem rxOpen_waitOpen {s : State} {b : Byte} (h : s.bi.rx = .waitOpen) : rxOpen s b =
    if s.sendsOpen b then s.setRx .skip
    else if openSrc b = s.cl.ownAddr then (s.setRx .skip).hand [.conditionReport .linkConflict true]
    else s.setRx (acceptOpen s b) := by
  rw [rxOpen, h]

/-- Settles O47: the own frame, the own address, and the table, in that order. -/
theorem openDecidesAcceptance : Obligations.OpenDecidesAcceptance := by
  intro s b
  refine ⟨_, rfl, ?_⟩
  intro src kind role mine taken
  have hmine : (s.readLine true).sendsOpen b = true ↔ mine := by
    rw [State.readLine_eq]
    exact s.sendsOpen_iff b
  have hcl : (s.readLine true).cl = s.cl := by rw [State.readLine_eq]
  have hrole : (s.readLine true).roleOf src.toNat = role := by rw [State.readLine_eq]; rfl
  have htaken : taken ↔ ∃ k, kindOfNat (openKind b) = some k ∧ accepts k role = true :=
    exists_congr fun k => and_congr_right fun _ => (accepts_iff k role).symm
  refine ⟨fun h => ?_, fun h => ?_, fun h => ?_, fun h => ?_⟩
  · have hon : s.readLine true = { s with bi := { s.bi with sbs := true } } := State.readLine_on (by rw [h]; decide) true
    have hwait : (s.readLine true).bi.rx = .waitOpen := by rw [hon]; exact h
    rw [rxOpen_waitOpen hwait]
    refine ⟨fun hm => ?_, fun hm hsrc => ?_, fun hm hsrc ht => ?_, fun hm hsrc ht => ?_⟩
    · rw [if_pos (hmine.2 hm), hon]
      rfl
    · rw [if_neg (mt hmine.1 hm), if_pos (hcl ▸ hsrc), hon]
      rfl
    · obtain ⟨k, hk, ha⟩ := htaken.1 ht
      refine ⟨k, hk, ?_⟩
      rw [if_neg (mt hmine.1 hm), if_neg (hcl ▸ hsrc), acceptOpen_taken hk (hrole ▸ ha), hon]
      rfl
    · have hno (k : FrameKind) (hk : kindOfNat (openKind b) = some k) :
          ¬accepts k ((s.readLine true).roleOf (openSrc b).toNat) = true := by
        intro ha
        exact ht (htaken.2 ⟨k, hk, hrole ▸ ha⟩)
      rw [if_neg (mt hmine.1 hm), if_neg (hcl ▸ hsrc), acceptOpen_skipped hno, hon]
      rfl
  · have hne : s.bi.rx ≠ .off := by obtain h | ⟨a, h⟩ := h <;> rw [h] <;> exact fun h => Receiver.noConfusion h
    rw [State.readLine_on hne]
    obtain h | ⟨a, h⟩ := h <;> simp only [rxOpen, h] <;> rfl
  · rw [State.readLine_on (by rw [h]; decide)]
    simp only [rxOpen, h]
  · rw [State.readLine_off h, rxOpen, h]

/-! ## A SHUT (R163) -/

theorem FrameKind.hasDest_iff (k : FrameKind) : k.hasDest = true ↔ k = .query ∨ k = .clear := by
  cases k <;> simp [FrameKind.hasDest]

/-- The frame record of an assembler, written by the bytes it has taken. -/
theorem Assembler.frame_eq (a : Assembler) (now : Stamp) : a.frame now =
    ⟨a.src, a.kind, if a.kind = .query ∨ a.kind = .clear then a.bytes.head? else none,
      (a.bytes.take (a.bytes.length - 2)).drop (if a.kind = .query ∨ a.kind = .clear then 1 else 0), now⟩ := by
  have hd := (FrameKind.hasDest_iff a.kind)
  unfold Assembler.frame leastCount
  by_cases h : a.kind = .query ∨ a.kind = .clear
  · simp only [hd.2 h, if_pos h, if_true, List.drop_take]
    rw [Nat.sub_sub]
  · simp [hd.not.2 h, h]

/-- A SHUT in IN_FRAME offers a whole, checked frame and abandons any other. -/
theorem rxShut_inFrame {s : State} {a : Assembler} (h : s.bi.rx = .inFrame a) : rxShut s =
    if a.run = none ∧ (if a.kind = .query ∨ a.kind = .clear then 3 else 2) ≤ a.bytes.length ∧ a.crc = 0 then
      (s.setRx .hunt).offer (a.frame s.clock)
    else s.setRx .hunt := by
  rw [rxShut, h]
  refine if_congr ?_ rfl rfl
  have hleast : leastCount a.kind = if a.kind = .query ∨ a.kind = .clear then 3 else 2 := by
    unfold leastCount
    exact if_congr (FrameKind.hasDest_iff a.kind) rfl rfl
  rw [hleast]
  simp [and_assoc]

/-- Settles O48: the frame offered or abandoned, and the queue and the peer view as the offer leaves them. -/
theorem shutOffersAGoodFrame : Obligations.ShutOffersAGoodFrame := by
  refine ⟨fun s a ha => ?_, fun s h => ?_, fun s h => ?_⟩
  · let u : State := { s with bi := { s.bi with rx := .hunt, sbs := true } }
    have hon : s.readLine true = { s with bi := { s.bi with sbs := true } } := State.readLine_on (by rw [ha]; simp) true
    have hshut := rxShut_inFrame (s := { s with bi := { s.bi with sbs := true } }) ha
    have hrx := (rxShut_rx { s with bi := { s.bi with sbs := true } }).trans (if_neg (by rw [ha]; simp))
    rw [hshut] at hrx
    have hexec : exec .shutMark s = .next (rxShut { s with bi := { s.bi with sbs := true } }) :=
      congrArg (fun x => Host.Outcome.next (rxShut x)) hon
    refine ⟨_, hexec.trans (congrArg _ hshut), hrx, ?_⟩
    intro dest good f
    rw [show a.frame s.clock = f from a.frame_eq s.clock]
    have hbusy (hp : s.pvu.processing ≠ none) := State.offer_busy (s := u) f hp
    have hidle (hp : s.pvu.processing = none) := State.offer_idle (s := u) f hp
    refine ⟨fun hg => if_neg hg, fun hg ho hp => (if_pos hg).trans ((hbusy hp).trans ?_),
      fun hg ho hp => (if_pos hg).trans ((hbusy hp).trans ?_), fun hg hp => (if_pos hg).trans (hidle hp),
      fun hg hp hq => (if_pos hg).trans ((hidle hp).trans ?_)⟩
    · exact congrArg (fun l => { u with bi := { u.bi with rfq := (offerFrame s.bi.rfq f).1 }, handed := l })
        ((congrArg (s.handed ++ ·) (if_neg fun h => Bool.false_ne_true (ho.symm.trans h))).trans (List.append_nil _))
    · exact congrArg (fun l => { u with bi := { u.bi with rfq := (offerFrame s.bi.rfq f).1 }, handed := s.handed ++ l })
        (if_pos ho)
    · have hoffer : offerFrame s.bi.rfq f = ([f], false) := by rw [hq]; simp [offerFrame, Config.rfqCapacity]
      rw [show u.bi.rfq = s.bi.rfq from rfl, hoffer]
      exact congrArg₂ (fun q l => ({ s with
        bi := { s.bi with rx := .hunt, sbs := true, rfq := q }, pvu := { s.pvu with processing := some (f, 0) }
        handed := l } : State)) hq.symm (List.append_nil s.handed)
  · have hne : s.bi.rx ≠ .off := by rcases h with h | h | h <;> rw [h] <;> decide
    show Host.Outcome.next (rxShut (s.readLine true)) = _
    rw [State.readLine_on hne]
    rcases h with h | h | h <;> simp only [rxShut, h] <;> rfl
  · show Host.Outcome.next (rxShut (s.readLine true)) = _
    rw [State.readLine_off h, rxShut, h]

/-! ## An offer (R164) -/

/-- Settles O49: the five cases in their order. -/
theorem queueSettlesAnOffer : Obligations.QueueSettlesAnOffer := by
  intro q f rival
  have hrival : (f.kind.periodic && q.any (fun g => g.same f)) = true ↔ rival := by
    rw [Bool.and_eq_true, List.any_eq_true]
    exact and_congr_right fun _ => exists_congr fun g => and_congr_right fun _ => RxFrame.same_iff g f
  refine ⟨fun hr => ?_, fun hr hl => ?_, fun hr hl hp => ?_, fun before g after hr hl hp hq hg ha => ?_, fun hr hl hp hq => ?_⟩
  · refine (if_pos (hrival.2 hr)).trans ?_
    refine congrArg (fun h => (q.map h, false)) (funext fun g => ?_)
    exact if_congr (RxFrame.same_iff g f) rfl rfl
  · exact (if_neg (mt hrival.1 hr)).trans (if_pos hl)
  · exact (if_neg (mt hrival.1 hr)).trans ((if_neg (Nat.not_lt.2 hl)).trans (if_pos hp))
  · refine (if_neg (mt hrival.1 hr)).trans ((if_neg (Nat.not_lt.2 hl)).trans ((if_neg (by rw [hp]; exact Bool.false_ne_true)).trans ?_))
    rw [hq, evictPeriodic_some hg ha]
  · refine (if_neg (mt hrival.1 hr)).trans ((if_neg (Nat.not_lt.2 hl)).trans ((if_neg (by rw [hp]; exact Bool.false_ne_true)).trans ?_))
    rw [evictPeriodic_none.2 hq]

/-! ## The idle (R161, R167) -/

/-- The start of a transmission from the slot of the lowest kind. -/
theorem State.startSending_lowest {s : State} {k : FrameKind} {f : Slot} (hk : s.bi.slots.lowest = some k)
    (hf : s.bi.slots.get k = some f) : s.startSending = { s with bi := { s.bi with
      tx := .sending
      slots := s.bi.slots.put k none
      inFlight := some ⟨k, f.payload, f.aborts, frameChars (openByte k s.cl.ownAddr) f.payload, 0⟩ } } := by
  rw [State.startSending, hk]
  dsimp only
  rw [hf]

/-- Settles O50: the receiver first, and then the frame of the lowest kind. -/
theorem idleOpensAndStarts : Obligations.IdleOpensAndStarts := by
  intro s
  let u : State := { s with bi := { s.bi with rx := rxIdle s.bi.rx, sbs := if s.bi.rx = .off then s.bi.sbs else true } }
  have hexec : exec .idle s = .next (if s.bi.tx = .waitGap then u.startSending else u) := by
    show Host.Outcome.next (if ((s.readLine true).setRx _).bi.tx = .waitGap then _ else _) = _
    rw [State.readLine_setRx]
  have hrx : rxIdle s.bi.rx = if s.bi.rx = .hunt then .waitOpen else s.bi.rx := by
    cases s.bi.rx <;> simp [rxIdle]
  by_cases hw : s.bi.tx = .waitGap
  · rw [if_pos hw] at hexec
    have heq := u.startSending_eq
    have hbi := congrArg State.bi heq
    refine ⟨_, hexec, (congrArg Bi.rx hbi).trans hrx, congrArg Bi.sbs hbi, fun h => absurd hw h, fun _ => ?_, ?_⟩
    · have hstart (k : FrameKind) (f : Slot) (hk : s.bi.slots.lowest = some k) (hf : s.bi.slots.get k = some f) :=
        congrArg State.bi (State.startSending_lowest (s := u) hk hf)
      refine ⟨fun f h1 => ?_, fun f h1 h2 => ?_, fun f h1 h2 h3 => ?_, fun f h1 h2 h3 h4 => ?_⟩
      · rw [hstart .halt f (by simp [Slots.lowest, h1]) h1]
        rfl
      · rw [hstart .rider f (by simp [Slots.lowest, h1, h2]) h2]
        rfl
      · rw [hstart .contrib f (by simp [Slots.lowest, h1, h2, h3]) h3]
        rfl
      · rw [hstart .report f (by simp [Slots.lowest, h1, h2, h3, h4]) h4]
        rfl
    · rw [heq]
  · rw [if_neg hw] at hexec
    exact ⟨u, hexec, hrx, rfl, fun _ => rfl, fun h => absurd h hw, rfl⟩

end Sys2Proof.Machine
end

section
/-! SUPPORT. The ends of a transmission, and the layouts of the payloads, both ways (R95, R97, R166 to R169, R178). -/

namespace Sys2Proof.Machine

/-! ## The slots -/

/-- The slot of a frame given back: the newer frame where it has been filled meanwhile. -/
theorem Slots.get_giveBack (x : Slots) {f : InFlight} (hf : FrameKind.hasSlot f.kind = true) (n : Nat) :
    (x.giveBack f n).get f.kind = if (x.get f.kind).isSome then x.get f.kind else some ⟨f.payload, n⟩ := by
  unfold Slots.giveBack
  split
  · rfl
  · exact x.get_put_self _ hf

theorem Slots.get_giveBack_ne (x : Slots) {f : InFlight} {k : FrameKind} (hk : k ≠ f.kind) (n : Nat) :
    (x.giveBack f n).get k = x.get k := by
  unfold Slots.giveBack
  split
  · rfl
  · exact x.get_put_ne _ hk

/-! ## The events of the transmitter -/

/-- The REPORT that a pending restart waits on. -/
theorem State.restartWaitsOn_iff (s : State) (f : InFlight) : s.restartWaitsOn f = true ↔
    s.sr.restartPending = true ∧ f.kind = .report ∧ s.bi.slots.report = none := by
  simp [State.restartWaitsOn, and_assoc]

theorem exec_frameSent {s : State} {f : InFlight} (htx : s.bi.tx = .sending) (hf : s.bi.inFlight = some f) :
    exec .frameSent s = .next (if s.restartWaitsOn f then restartNode s
      else { s with bi := { s.bi with sbs := true, inFlight := none, tx := s.bi.slots.rest } }) := by
  show execFrameSent s = _
  rw [execFrameSent, htx, hf]

theorem exec_arbitrationLoss {s : State} {f : InFlight} (htx : s.bi.tx = .sending) (hf : s.bi.inFlight = some f) :
    exec .arbitrationLoss s = .next { s with bi := { s.bi with
      sbs := !s.bi.sbd, inFlight := none, tx := .waitGap, slots := s.bi.slots.giveBack f f.aborts } } := by
  show execArbitrationLoss s = _
  rw [execArbitrationLoss, htx, hf]

theorem exec_readbackMismatch {s : State} {f : InFlight} (htx : s.bi.tx = .sending) (hf : s.bi.inFlight = some f) :
    exec .readbackMismatch s = .next (
      if f.aborts + 1 < Config.abortLimit || (s.bi.slots.get f.kind).isSome then
        { s with bi := s.bi.abort (s.bi.slots.giveBack f (f.aborts + 1)) }
      else if s.restartWaitsOn f then resetNode s (CondSet.put s.nsc.latches .linkConflict true) s.nsc.lastHalt
      else ({ s with bi := s.bi.abort s.bi.slots }).hand [.conditionReport .linkConflict true]) := by
  show execReadbackMismatch s = _
  rw [execReadbackMismatch, htx, hf]

/-- An event of a frame in flight has no effect where none is. -/
theorem exec_notSending {s : State} (h : s.bi.tx ≠ .sending) : exec .frameSent s = .next s ∧
    exec .arbitrationLoss s = .next s ∧ exec .readbackMismatch s = .next s := by
  show execFrameSent s = _ ∧ execArbitrationLoss s = _ ∧ execReadbackMismatch s = _
  unfold execFrameSent execArbitrationLoss execReadbackMismatch
  cases htx : s.bi.tx with
  | sending => exact absurd htx h
  | off | idle | waitGap | aborting => exact ⟨rfl, rfl, rfl⟩

/-- Settles O51: each end by what the frame and its slot are. -/
theorem transmissionEnds : Obligations.TransmissionEnds := by
  refine ⟨fun s f htx hf hslot => ?_, fun s n htx hn => ?_, fun s h => exec_notSending h, fun s h => ?_⟩
  · intro waits next mine
    have hwaits := s.restartWaitsOn_iff f
    have hmine (h : waits) : mine = none := by
      obtain ⟨-, hk, hnone⟩ := h
      show s.bi.slots.get f.kind = none
      rw [hk]
      exact hnone
    have hlimit (n : Nat) (b : Bool) : (decide (n + 1 < Config.abortLimit) || b) = true ↔ n < 2 ∨ b = true := by
      rw [Bool.or_eq_true, decide_eq_true_eq]
      exact or_congr_left Nat.succ_lt_succ_iff
    refine ⟨fun hw => ?_, fun hw => ?_, ⟨_, exec_arbitrationLoss htx hf, rfl, rfl, ?_, ?_⟩, fun hagain => ?_,
      fun h2 hm hw => ?_, fun h2 hw => ?_⟩
    · rw [exec_frameSent htx hf, if_neg (mt hwaits.1 hw)]
      rfl
    · rw [exec_frameSent htx hf, if_pos (hwaits.2 hw)]
      exact ⟨_, rfl, rfl, rfl, rfl, rfl, rfl, rfl, rfl, rfl⟩
    · exact s.bi.slots.get_giveBack hslot f.aborts
    · exact fun k hk => s.bi.slots.get_giveBack_ne hk f.aborts
    · rw [exec_readbackMismatch htx hf, if_pos ((hlimit _ _).2 hagain)]
      exact ⟨_, rfl, rfl, rfl, s.bi.slots.get_giveBack hslot (f.aborts + 1),
        fun k hk => s.bi.slots.get_giveBack_ne hk (f.aborts + 1)⟩
    · have hno : ¬(f.aborts < 2 ∨ (s.bi.slots.get f.kind).isSome = true) := by
        rintro (h | h)
        · omega
        · rw [show s.bi.slots.get f.kind = none from hm] at h
          exact Bool.noConfusion h
      rw [exec_readbackMismatch htx hf, if_neg (mt (hlimit _ _).1 hno), if_neg (mt hwaits.1 hw)]
      rfl
    · have hno : ¬(f.aborts < 2 ∨ (s.bi.slots.get f.kind).isSome = true) := by
        rintro (h | h)
        · omega
        · rw [show s.bi.slots.get f.kind = none from hmine hw] at h
          exact Bool.noConfusion h
      rw [exec_readbackMismatch htx hf, if_neg (mt (hlimit _ _).1 hno), if_pos (hwaits.2 hw)]
      exact ⟨_, rfl, rfl, CondSet.has_put_self _ _ _, rfl⟩
  · have hlimit : s.bi.abortTime.atLimit Config.tAbort = decide (33 ≤ n) := by rw [hn]; rfl
    refine ⟨fun h => ?_, fun h => ?_⟩
    · exact congrArg Host.Outcome.next (if_pos ⟨htx, hlimit.trans (decide_eq_true h)⟩)
    · refine congrArg Host.Outcome.next (if_neg fun h' => ?_)
      exact Nat.not_le.2 h (of_decide_eq_true (hlimit.symm.trans h'.2))
  · exact congrArg Host.Outcome.next (if_neg fun h' => h h'.1)

/-! ## Two-byte fields, nibbles and flags -/

theorem halfOf_halfBytes (x : Half) : halfOf (x.extractLsb' 8 8) (x.extractLsb' 0 8) = x :=
  BitVec.extractLsb'_append_extractLsb' (w := 8) (len := 8)

theorem halfBytes_halfOf (hi lo : Byte) : halfBytes (halfOf hi lo) = [hi, lo] :=
  congrArg₂ (fun x y => [x, y]) BitVec.extractLsb'_append_eq_left BitVec.extractLsb'_append_eq_right

theorem extract_high (x y : BitVec 4) : (x ++ y).extractLsb' 4 4 = x := BitVec.extractLsb'_append_eq_left

theorem extract_low (x y : BitVec 4) : (x ++ y).extractLsb' 0 4 = y := BitVec.extractLsb'_append_eq_right

theorem append_nibbles (b : Byte) : b.extractLsb' 4 4 ++ b.extractLsb' 0 4 = b :=
  BitVec.extractLsb'_append_extractLsb' (w := 4) (len := 4)

/-- The byte of the CONTRIB's flags (10.6). -/
def contribFlags (saturated driver : Bool) (switch speed : BitVec 2) (ready ramping : Bool) : Byte :=
  BitVec.ofBool saturated ++ BitVec.ofBool driver ++ switch ++ speed ++ BitVec.ofBool ready ++ BitVec.ofBool ramping

/-- Every flag is read back from its byte. -/
theorem contribFlags_read : ∀ (saturated driver : Bool) (switch speed : BitVec 2) (ready ramping : Bool),
    (contribFlags saturated driver switch speed ready ramping).getLsbD 7 = saturated ∧
    (contribFlags saturated driver switch speed ready ramping).getLsbD 6 = driver ∧
    (contribFlags saturated driver switch speed ready ramping).extractLsb' 4 2 = switch ∧
    (contribFlags saturated driver switch speed ready ramping).extractLsb' 2 2 = speed ∧
    (contribFlags saturated driver switch speed ready ramping).getLsbD 1 = ready ∧
    (contribFlags saturated driver switch speed ready ramping).getLsbD 0 = ramping := by decide +kernel

/-- Every byte is the byte of the flags read from it. -/
theorem contribFlags_write : ∀ b : Byte, contribFlags (b.getLsbD 7) (b.getLsbD 6) (b.extractLsb' 4 2) (b.extractLsb' 2 2)
    (b.getLsbD 1) (b.getLsbD 0) = b := by decide +kernel

/-! ## The two layouts (10.6) -/

theorem Contrib.ofBytes_toBytes (c : Contrib) : Contrib.ofBytes c.toBytes = c := by
  obtain ⟨role, nodeState, primary, present, phiT, phiM, tauD, share, w, saturated, driver, switch, speed, ready, ramping,
    pulse, depth, refusal, topTag⟩ := c
  obtain ⟨hsat, hdrv, hsw, hspd, hready, hramp⟩ := contribFlags_read saturated driver switch speed ready ramping
  unfold contribFlags at hsat hdrv hsw hspd hready hramp
  simp only [Contrib.ofBytes, Contrib.toBytes, byteAt, halfAt, halfBytes, List.cons_append, List.nil_append,
    List.getD_cons_zero, List.getD_cons_succ, halfOf_halfBytes, extract_high, extract_low, hsat, hdrv, hsw, hspd, hready, hramp]

theorem Contrib.toBytes_ofBytes {l : List Byte} (h : l.length = 18) : (Contrib.ofBytes l).toBytes = l := by
  match l, h with
  | [b0, b1, b2, b3, b4, b5, b6, b7, b8, b9, b10, b11, b12, b13, b14, b15, b16, b17], _ =>
    have hflags := contribFlags_write b13
    unfold contribFlags at hflags
    simp only [Contrib.ofBytes, Contrib.toBytes, byteAt, halfAt, halfBytes_halfOf, List.cons_append, List.nil_append,
      List.getD_cons_zero, List.getD_cons_succ, append_nibbles, hflags]

theorem Rider.ofBytes_toBytes (r : Rider) : Rider.ofBytes r.toBytes = r := by
  obtain ⟨delta, tauH, angleState, torqueState, nodeState⟩ := r
  simp only [Rider.ofBytes, Rider.toBytes, byteAt, halfAt, halfBytes, List.cons_append, List.nil_append,
    List.getD_cons_zero, List.getD_cons_succ, halfOf_halfBytes, extract_high, extract_low]

theorem Rider.toBytes_ofBytes {l : List Byte} (h : l.length = 6) : (Rider.ofBytes l).toBytes = l := by
  match l, h with
  | [b0, b1, b2, b3, b4, b5], _ =>
    simp only [Rider.ofBytes, Rider.toBytes, byteAt, halfAt, halfBytes_halfOf, List.cons_append, List.nil_append,
      List.getD_cons_zero, List.getD_cons_succ, append_nibbles]

/-- Settles O54. -/
theorem payloadLayoutsRoundTrip : Obligations.PayloadLayoutsRoundTrip :=
  ⟨fun c => ⟨rfl, Contrib.ofBytes_toBytes c⟩, fun r => ⟨rfl, Rider.ofBytes_toBytes r⟩,
    fun _ h => Contrib.toBytes_ofBytes h, fun _ h => Rider.toBytes_ofBytes h⟩

end Sys2Proof.Machine
end

section
/-! SUPPORT. A frame sent is the frame taken: the characters of runs, the CRC, and the bits on the line (R155 to R163). -/

namespace Sys2Proof.Machine

/-! ## The CRC of a frame (R160) -/

/-- A bit equal to the top of the register only shifts it. -/
theorem crcBit_top (r : BitVec 16) : crcBit r (r.getLsbD 15) = r <<< 1 := if_neg (by simp)

/-- A byte equal to the top of the register only shifts it. -/
theorem crcByte_top (r : BitVec 16) : crcByte r (r.extractLsb' 8 8) = r <<< 8 := by
  have step (i : Nat) (hi : i < 8) : crcBit (r <<< i) ((r.extractLsb' 8 8).getLsbD (7 - i)) = r <<< (i + 1) := by
    have hbit : (r.extractLsb' 8 8).getLsbD (7 - i) = (r <<< i).getLsbD 15 := by
      rw [BitVec.getLsbD_extractLsb', BitVec.getLsbD_shiftLeft]
      have h1 : 8 + (7 - i) = 15 - i := by omega
      have h2 : 7 - i < 8 := by omega
      simp [h1, h2, show ¬15 < i by omega]
    rw [hbit, crcBit_top, ← BitVec.shiftLeft_add]
  have h0 := step 0 (by decide)
  rw [BitVec.shiftLeft_zero] at h0
  simp only [crcByte, List.foldl_cons, List.foldl_nil]
  rw [h0, step 1 (by decide), step 2 (by decide), step 3 (by decide), step 4 (by decide), step 5 (by decide),
    step 6 (by decide), step 7 (by decide)]

/-- The register after its own two bytes is 0. -/
theorem crcBytes_half (r : BitVec 16) : crcBytes r (halfBytes r) = 0 := by
  have hlow : r.extractLsb' 0 8 = (r <<< 8).extractLsb' 8 8 := by
    ext i hi
    simp
    omega
  show crcByte (crcByte r (r.extractLsb' 8 8)) (r.extractLsb' 0 8) = 0
  rw [crcByte_top, hlow, crcByte_top, ← BitVec.shiftLeft_add]
  exact BitVec.shiftLeft_eq_zero (by decide)

/-! ## The runs of equal bytes (R167) -/

/-- The runs of a list, written out again, are the list. -/
theorem runsOf_flatten (l : List Byte) : (runsOf l).flatMap (fun q => List.replicate q.2 q.1) = l := by
  induction l with
  | nil => rfl
  | cons b l ih =>
    rw [runsOf]
    split
    next h =>
      rw [h] at ih
      rw [← ih]
      rfl
    next c n more h =>
      rw [h, List.flatMap_cons] at ih
      split
      next hc =>
        subst hc
        rw [List.flatMap_cons, List.replicate_succ, List.cons_append, ih]
      next hc => rw [List.flatMap_cons, List.flatMap_cons, ih]; rfl

/-- No run is empty. -/
theorem runsOf_pos (l : List Byte) : ∀ q ∈ runsOf l, 1 ≤ q.2 := by
  induction l with
  | nil => simp [runsOf]
  | cons b l ih =>
    rw [runsOf]
    split
    · simp
    next c n more h =>
      rw [h] at ih
      split
      · exact List.forall_mem_cons.2 ⟨Nat.succ_pos n, (List.forall_mem_cons.1 ih).2⟩
      · exact List.forall_mem_cons.2 ⟨Nat.le_refl 1, ih⟩

/-! ## A receiver inside a frame (R159, R161) -/

/-- The state of a receiver inside a frame that has just read a stop bit. -/
def State.inFrame (s : State) (a : Assembler) : State := { s with bi := { s.bi with rx := .inFrame a, sbs := true } }

/-- The assembler after bytes have entered it. -/
def Assembler.feed (a : Assembler) (l : List Byte) : Assembler := { a with bytes := a.bytes ++ l, crc := l.foldl crcByte a.crc }

theorem Assembler.feed_append (a : Assembler) (l m : List Byte) : (a.feed l).feed m = a.feed (l ++ m) := by
  simp [Assembler.feed]

/-- The next byte is no foreign DEST (R162). -/
def Assembler.admits (a : Assembler) (own : Addr) (b : Byte) : Prop :=
  ¬(a.kind.hasDest = true ∧ a.bytes = [] ∧ b.toNat ≠ own.toNat ∧ b.toNat ≠ 15)

theorem Assembler.admits_feed {a : Assembler} {own : Addr} {b : Byte} (h : a.admits own b) (l : List Byte) :
    (a.feed l).admits own b := by
  rintro ⟨hd, hb, hne⟩
  exact h ⟨hd, (List.append_eq_nil_iff.1 hb).1, hne⟩

/-- An assembler that has a byte has no DEST to come. -/
theorem Assembler.admits_of_bytes {a : Assembler} (h : a.bytes ≠ []) (own : Addr) (b : Byte) : a.admits own b :=
  fun h' => h h'.2.1

/-- A character taken, and then the rest. -/
theorem takeChars_cons {c : LineChar} {s t : State} (h : exec c.command s = .next t) (l : List LineChar) :
    takeChars (c :: l) s = takeChars l t := by
  rw [takeChars, h]

theorem takeChars_append (l m : List LineChar) (s : State) : takeChars (l ++ m) s = (takeChars l s).bind (takeChars m) := by
  induction l generalizing s with
  | nil => rfl
  | cons c l ih =>
    simp only [List.cons_append, takeChars]
    split
    · exact ih _
    · rfl

/-- A data character expands the copies that its RUN has announced. -/
theorem exec_data_inFrame {s : State} {a : Assembler} {b : Byte} (h : a.admits s.cl.ownAddr b)
    (hl : a.bytes.length + a.run.getD 1 ≤ 35) : exec (LineChar.data b).command (s.inFrame a) =
      .next (s.inFrame ({ a with run := none }.feed (List.replicate (a.run.getD 1) b))) := by
  refine congrArg Host.Outcome.next (((s.inFrame a).readLine_setRx true _).trans ?_)
  have hgo := expandCopies_going s.cl.ownAddr b (a.run.getD 1) { a with run := none } h hl
  exact congrArg (fun e : Expansion => { s with bi := { s.bi with rx := e.receiver, sbs := true } }) hgo

/-- A RUN mark announces its copies. -/
theorem exec_run_inFrame {s : State} {a : Assembler} (n : BitVec 4) (h : a.run = none) :
    exec (.runMark n) (s.inFrame a) = .next (s.inFrame { a with run := some (n.toNat + 2) }) := by
  refine congrArg Host.Outcome.next (((s.inFrame a).readLine_setRx true _).trans ?_)
  have hrx : rxRun n (.inFrame a) = .inFrame { a with run := some (n.toNat + 2) } :=
    if_neg (by rw [h]; exact Bool.false_ne_true)
  exact congrArg (fun r : Receiver => { s with bi := { s.bi with rx := r, sbs := true } }) hrx

/-- The RUN mark of n copies carries n - 2 (10.6). -/
theorem runMarkOf_command {n : Nat} (h2 : 2 ≤ n) (h17 : n ≤ 17) :
    ∃ m : BitVec 4, (runMarkOf n).command = .runMark m ∧ m.toNat + 2 = n := by
  have hn : (BitVec.ofNat 8 (0xC0 + (n - 2))).toNat = 0xC0 + (n - 2) := by
    rw [BitVec.toNat_ofNat]
    omega
  refine ⟨(BitVec.ofNat 8 (0xC0 + (n - 2))).extractLsb' 0 4, ?_, ?_⟩
  · show (if _ then _ else if _ then _ else _) = _
    rw [hn, if_neg (by omega), if_pos (by omega)]
  · rw [BitVec.extractLsb'_toNat, hn, Nat.shiftRight_zero]
    omega

/-- Characters that feed bytes to a receiver inside a frame. -/
def Feeds (s : State) (a : Assembler) (chars : List LineChar) (l : List Byte) : Prop :=
  takeChars chars (s.inFrame a) = some (s.inFrame (a.feed l))

theorem Feeds.append {s : State} {a : Assembler} {x y : List LineChar} {l m : List Byte} (hx : Feeds s a x l)
    (hy : Feeds s (a.feed l) y m) : Feeds s a (x ++ y) (l ++ m) := by
  unfold Feeds at *
  rw [takeChars_append, hx, Option.bind_some, hy, Assembler.feed_append]

theorem Feeds.nil (s : State) (a : Assembler) : Feeds s a [] [] := by
  simp [Feeds, takeChars, Assembler.feed]

/-- One data character feeds its byte. -/
theorem Feeds.data {s : State} {a : Assembler} {b : Byte} (hrun : a.run = none) (h : a.admits s.cl.ownAddr b)
    (hl : a.bytes.length + 1 ≤ 35) : Feeds s a [.data b] [b] := by
  have hexec := exec_data_inFrame (s := s) h (by rw [hrun]; exact hl)
  refine (takeChars_cons hexec []).trans ?_
  rw [hrun]
  obtain ⟨src, kind, bytes, crc, run⟩ := a
  cases hrun
  rfl

/-- A RUN mark and its data character feed the copies. -/
theorem Feeds.run {s : State} {a : Assembler} {b : Byte} {n : Nat} (h2 : 2 ≤ n) (h17 : n ≤ 17) (hrun : a.run = none)
    (h : a.admits s.cl.ownAddr b) (hl : a.bytes.length + n ≤ 35) : Feeds s a [runMarkOf n, .data b] (List.replicate n b) := by
  obtain ⟨m, hm, rfl⟩ := runMarkOf_command h2 h17
  have hdata := exec_data_inFrame (s := s) (a := { a with run := some (m.toNat + 2) }) h hl
  refine (takeChars_cons (by rw [hm]; exact exec_run_inFrame m hrun) _).trans ((takeChars_cons hdata []).trans ?_)
  obtain ⟨src, kind, bytes, crc, run⟩ := a
  cases hrun
  rfl

/-- RUNs of 17 feed their copies. -/
theorem Feeds.runs {s : State} {a : Assembler} {b : Byte} (k : Nat) (hrun : a.run = none) (h : a.admits s.cl.ownAddr b)
    (hl : a.bytes.length + 17 * k ≤ 35) :
    Feeds s a (List.replicate k [runMarkOf 17, .data b]).flatten (List.replicate (17 * k) b) := by
  induction k generalizing a with
  | zero => exact Feeds.nil s a
  | succ k ih =>
    have hfirst : Feeds s a [runMarkOf 17, .data b] (List.replicate 17 b) :=
      Feeds.run (by decide) (by decide) hrun h (by omega)
    have hlen : (a.feed (List.replicate 17 b)).bytes.length = a.bytes.length + 17 := by simp [Assembler.feed]
    have hmore := ih (a := a.feed (List.replicate 17 b)) hrun (Assembler.admits_feed h _) (by rw [hlen]; omega)
    rw [List.replicate_succ, List.flatten_cons, Nat.mul_succ, Nat.add_comm, List.replicate_add]
    exact hfirst.append hmore

/-- What is left of a run feeds its copies. -/
theorem Feeds.rest {s : State} {a : Assembler} {b : Byte} {n : Nat} (h17 : n ≤ 17) (hrun : a.run = none)
    (h : a.admits s.cl.ownAddr b) (hl : a.bytes.length + n ≤ 35) : Feeds s a (restChars b n) (List.replicate n b) := by
  unfold restChars
  split
  next h2 =>
    match n, h2 with
    | 0, _ => exact Feeds.nil s a
    | 1, _ => exact Feeds.data hrun h hl
    | 2, _ =>
      have hfirst : Feeds s a [.data b] [b] := Feeds.data hrun h (by omega)
      exact hfirst.append (Feeds.data hrun (Assembler.admits_feed h _) (by simp [Assembler.feed]; omega))
  next h2 => exact Feeds.run (by omega) h17 hrun h hl

/-- The characters of one run feed its copies. -/
theorem Feeds.runChars {s : State} {a : Assembler} {b : Byte} (n : Nat) (hrun : a.run = none) (h : a.admits s.cl.ownAddr b)
    (hl : a.bytes.length + n ≤ 35) : Feeds s a (runChars b n) (List.replicate n b) := by
  have hdiv : 17 * (n / 17) + n % 17 = n := Nat.div_add_mod n 17
  have hlen : (a.feed (List.replicate (17 * (n / 17)) b)).bytes.length = a.bytes.length + 17 * (n / 17) := by
    simp [Assembler.feed]
  have hruns : Feeds s a _ _ := Feeds.runs (n / 17) hrun h (by omega)
  have hrest : Feeds s (a.feed (List.replicate (17 * (n / 17)) b)) _ _ :=
    Feeds.rest (n := n % 17) (by omega) hrun (Assembler.admits_feed h _) (by rw [hlen]; omega)
  have hall := hruns.append hrest
  rw [← List.replicate_add, hdiv] at hall
  exact hall

/-- The characters of runs feed what the runs write out. -/
theorem Feeds.ofRuns {s : State} {a : Assembler} (rs : List (Byte × Nat)) (hpos : ∀ q ∈ rs, 1 ≤ q.2) (hrun : a.run = none)
    (h : ∀ q ∈ rs.head?, a.admits s.cl.ownAddr q.1)
    (hl : a.bytes.length + (rs.flatMap (fun q => List.replicate q.2 q.1)).length ≤ 35) :
    Feeds s a (rs.flatMap (fun q => Machine.runChars q.1 q.2)) (rs.flatMap (fun q => List.replicate q.2 q.1)) := by
  induction rs generalizing a with
  | nil => exact Feeds.nil s a
  | cons q rs ih =>
    rw [List.flatMap_cons, List.length_append, List.length_replicate] at hl
    have hq : 1 ≤ q.2 := hpos q (by simp)
    have hfirst : Feeds s a (Machine.runChars q.1 q.2) (List.replicate q.2 q.1) :=
      Feeds.runChars q.2 hrun (h q rfl) (by omega)
    have hne : (a.feed (List.replicate q.2 q.1)).bytes ≠ [] := by
      intro h
      have := congrArg List.length (List.append_eq_nil_iff.1 h).2
      rw [List.length_replicate] at this
      exact absurd this (by simp; omega)
    have hmore := ih (a := a.feed (List.replicate q.2 q.1)) (fun x hx => hpos x (List.mem_cons_of_mem _ hx)) hrun
      (fun x _ => Assembler.admits_of_bytes hne _ _) (by
        rw [show (a.feed (List.replicate q.2 q.1)).bytes = a.bytes ++ List.replicate q.2 q.1 from rfl, List.length_append,
          List.length_replicate]
        omega)
    rw [List.flatMap_cons, List.flatMap_cons]
    exact hfirst.append hmore

/-- The characters of bytes feed the bytes. -/
theorem Feeds.bytesChars {s : State} {a : Assembler} (l : List Byte) (hrun : a.run = none)
    (h : ∀ b ∈ l.head?, a.admits s.cl.ownAddr b) (hl : a.bytes.length + l.length ≤ 35) : Feeds s a (bytesChars l) l := by
  have hflat := runsOf_flatten l
  have hhead : ∀ q ∈ (runsOf l).head?, a.admits s.cl.ownAddr q.1 := by
    intro q hq
    refine h q.1 ?_
    have hq' := hq
    cases hr : runsOf l with
    | nil => simp [hr] at hq
    | cons p rs =>
      obtain rfl : p = q := by simpa [hr] using hq
      have hp := runsOf_pos l p (by simp [hr])
      rw [← hflat, hr, List.flatMap_cons]
      obtain ⟨n, hn⟩ : ∃ n, p.2 = n + 1 := ⟨p.2 - 1, by omega⟩
      rw [hn, List.replicate_succ]
      rfl
  have hall : Feeds s a _ _ := Feeds.ofRuns (runsOf l) (runsOf_pos l) hrun hhead (by rw [hflat]; exact hl)
  rw [hflat] at hall
  exact hall

/-! ## The marks at the two ends (R162, R163) -/

/-- The parts of an OPEN byte. -/
theorem openByte_parts (k : FrameKind) (src : Addr) : openSrc (openByte k src) = src ∧ openKind (openByte k src) = kindCode k ∧
    kindOfNat (kindCode k) = some k ∧ (openByte k src).toNat < 0xC0 := by
  have hcode : kindCode k < 12 := by cases k <;> decide
  refine ⟨extract_low _ _, ?_, by cases k <;> rfl, ?_⟩
  · show ((BitVec.ofNat 4 (kindCode k) ++ src).extractLsb' 4 4).toNat = _
    rw [extract_high, BitVec.toNat_ofNat]
    omega
  · show (BitVec.ofNat 4 (kindCode k) ++ src).toNat < _
    have := src.isLt
    rw [BitVec.toNat_append, BitVec.toNat_ofNat, Nat.mod_eq_of_lt (by omega), ← Nat.shiftLeft_add_eq_or_of_lt (by omega),
      Nat.shiftLeft_eq]
    omega

/-- The OPEN of a frame that the receiver accepts. -/
theorem exec_open_inFrame {s : State} {src : Addr} {k : FrameKind} (hrx : s.bi.rx = .waitOpen) (hsrc : src ≠ s.cl.ownAddr)
    (ha : accepts k (s.roleOf src.toNat) = true) :
    exec (LineChar.mark (openByte k src)).command s = .next (s.inFrame ⟨src, k, [], crcByte crcInit (openByte k src), none⟩) := by
  obtain ⟨hos, hok, hkind, hlt⟩ := openByte_parts k src
  have hcommand : (LineChar.mark (openByte k src)).command = .openMark (openByte k src) := if_pos hlt
  have hon : s.readLine true = { s with bi := { s.bi with sbs := true } } := State.readLine_on (by rw [hrx]; decide) true
  have hsends : ¬({ s with bi := { s.bi with sbs := true } } : State).sendsOpen (openByte k src) = true := by
    rw [State.sendsOpen_iff]
    rintro ⟨f, -, -, heq⟩
    have h := congrArg openSrc heq
    rw [hos, (openByte_parts f.kind _).1] at h
    exact hsrc h.symm
  have hacc : acceptOpen { s with bi := { s.bi with sbs := true } } (openByte k src) =
      .inFrame ⟨src, k, [], crcByte crcInit (openByte k src), none⟩ := by
    rw [acceptOpen_taken (k := k) (by rw [hok, hkind]) (by rw [hos]; exact ha), hos]
    rfl
  rw [hcommand]
  show Host.Outcome.next (rxOpen (s.readLine true) _) = _
  rw [hon, rxOpen_waitOpen (s := { s with bi := { s.bi with sbs := true } }) hrx, if_neg hsends, if_neg (by rw [hos]; exact hsrc),
    hacc]
  rfl

/-- The SHUT of a whole frame offers it. -/
theorem exec_shut_inFrame {s : State} {a : Assembler} (hp : s.pvu.processing ≠ none) (hrun : a.run = none)
    (hleast : (if a.kind = .query ∨ a.kind = .clear then 3 else 2) ≤ a.bytes.length) (hcrc : a.crc = 0) :
    exec (LineChar.mark 0xFF).command (s.inFrame a) = .next { s with
      bi := { s.bi with sbs := true, rx := .hunt, rfq := (offerFrame s.bi.rfq (a.frame s.clock)).1 }
      handed := s.handed ++
        (if (offerFrame s.bi.rfq (a.frame s.clock)).2 then [.conditionReport .queueOverrun true] else []) } := by
  show Host.Outcome.next (rxShut ((s.inFrame a).readLine true)) = _
  rw [State.readLine_on (s := s.inFrame a) (fun h => Receiver.noConfusion h), rxShut_inFrame (a := a) rfl,
    if_pos ⟨hrun, hleast, hcrc⟩]
  exact congrArg Host.Outcome.next (State.offer_busy (s := State.setRx _ _) _ hp)

/-- The frame record of the bytes of a payload with its CRC. -/
theorem Assembler.frame_of_payload (src : Addr) (k : FrameKind) (payload : List Byte) (x y : Byte) (crc : BitVec 16) (now : Stamp)
    (hd : k.hasDest = true → payload ≠ []) :
    (⟨src, k, payload ++ [x, y], crc, none⟩ : Assembler).frame now =
      ⟨src, k, if k.hasDest then payload.head? else none, if k.hasDest then payload.tail else payload, now⟩ := by
  rw [Assembler.frame_eq]
  have hlen : (payload ++ [x, y]).length - 2 = payload.length := by simp
  by_cases h : k = .query ∨ k = .clear
  · have hdest := (FrameKind.hasDest_iff k).2 h
    obtain ⟨d, rest, rfl⟩ := List.exists_cons_of_ne_nil (hd hdest)
    simp only [hlen, if_pos h, hdest, if_true, List.take_left]
    rfl
  · have hdest : ¬k.hasDest = true := mt (FrameKind.hasDest_iff k).1 h
    simp only [hlen, if_neg h, if_neg hdest, List.take_left, List.drop_zero]

/-- The characters of a frame end in the frame offered. -/
theorem takeChars_frame {s : State} {src : Addr} {k : FrameKind} {payload : List Byte} (hrx : s.bi.rx = .waitOpen)
    (hp : s.pvu.processing ≠ none) (hsrc : src ≠ s.cl.ownAddr) (ha : accepts k (s.roleOf src.toNat) = true)
    (hl : payload.length ≤ 33)
    (hd : k.hasDest = true → ∃ d rest, payload = d :: rest ∧ (d.toNat = s.cl.ownAddr.toNat ∨ d = 15)) :
    let f : RxFrame := ⟨src, k, if k.hasDest then payload.head? else none,
      if k.hasDest then payload.tail else payload, s.clock⟩
    takeChars (frameChars (openByte k src) payload) s = some { s with
      bi := { s.bi with sbs := true, rx := .hunt, rfq := (offerFrame s.bi.rfq f).1 }
      handed := s.handed ++ (if (offerFrame s.bi.rfq f).2 then [.conditionReport .queueOverrun true] else []) } := by
  intro f
  let a : Assembler := ⟨src, k, [], crcByte crcInit (openByte k src), none⟩
  have hadmits : ∀ b ∈ (payload ++ halfBytes (frameCrc (openByte k src) payload)).head?, a.admits s.cl.ownAddr b := by
    rintro b hb ⟨hdest, -, hown, h15⟩
    obtain ⟨d, rest, rfl, hforUs⟩ := hd hdest
    obtain rfl : d = b := by simpa using hb
    rcases hforUs with h | rfl
    · exact hown h
    · exact h15 rfl
  have hcrc : (payload ++ halfBytes (frameCrc (openByte k src) payload)).foldl crcByte a.crc = 0 := by
    rw [List.foldl_append]
    exact crcBytes_half _
  have hfeed : Feeds s a _ _ := Feeds.bytesChars (payload ++ halfBytes (frameCrc (openByte k src) payload)) rfl hadmits (by
    show 0 + _ ≤ 35
    rw [List.length_append]
    simp [halfBytes]
    omega)
  have hframe : (a.feed (payload ++ halfBytes (frameCrc (openByte k src) payload))).frame s.clock = f :=
    Assembler.frame_of_payload src k payload _ _ _ _ fun hdest => by
      obtain ⟨d, rest, rfl, -⟩ := hd hdest
      simp
  have hleast : (if k = .query ∨ k = .clear then 3 else 2) ≤
      (a.feed (payload ++ halfBytes (frameCrc (openByte k src) payload))).bytes.length := by
    show _ ≤ (payload ++ halfBytes (frameCrc (openByte k src) payload)).length
    rw [List.length_append]
    split
    next h =>
      obtain ⟨d, rest, rfl, -⟩ := hd ((FrameKind.hasDest_iff k).2 h)
      simp [halfBytes]
    · simp [halfBytes]
  have hshut := exec_shut_inFrame (s := s) (a := a.feed (payload ++ halfBytes (frameCrc (openByte k src) payload))) hp rfl
    hleast hcrc
  rw [hframe] at hshut
  rw [frameChars, List.cons_append, takeChars_cons (exec_open_inFrame hrx hsrc ha), takeChars_append, hfeed, Option.bind_some,
    takeChars_cons hshut]
  rfl

/-! ## The bits on the line (R155, R156) -/

/-- The bits of a character. -/
theorem LineChar.word_bits (c : LineChar) : c.word.getLsbD 10 = false ∧ c.word.getLsbD 9 = c.tag ∧
    (∀ i, i < 8 → c.word.getLsbD (i + 1) = c.byte.getLsbD i) ∧ c.word.getLsbD 0 = true := by
  have hends : ∀ b : Byte, ((LineChar.data b).word.getLsbD 10 = false ∧ (LineChar.data b).word.getLsbD 9 = false ∧
      (LineChar.data b).word.getLsbD 0 = true) ∧ (LineChar.mark b).word.getLsbD 10 = false ∧
      (LineChar.mark b).word.getLsbD 9 = true ∧ (LineChar.mark b).word.getLsbD 0 = true := by decide +kernel
  have hbits : ∀ (b : Byte) (i : Fin 8), (LineChar.data b).word.getLsbD (i + 1) = b.getLsbD i ∧
      (LineChar.mark b).word.getLsbD (i + 1) = b.getLsbD i := by decide +kernel
  cases c with
  | data b =>
    obtain ⟨⟨hstart, htag, hstop⟩, -⟩ := hends b
    exact ⟨hstart, htag, fun i hi => (hbits b ⟨i, hi⟩).1, hstop⟩
  | mark b =>
    obtain ⟨-, hstart, htag, hstop⟩ := hends b
    exact ⟨hstart, htag, fun i hi => (hbits b ⟨i, hi⟩).2, hstop⟩

theorem lineBits_length (l : List (BitVec 11)) : (lineBits l).length = 11 * l.length := by
  induction l with
  | nil => rfl
  | cons w l ih =>
    rw [lineBits, List.flatMap_cons, List.length_append] at *
    rw [ih]
    simp
    omega

/-- The frame in flight after some bit times. -/
theorem bitTimes_inFlight {b : Bi} {f : InFlight} (hf : b.inFlight = some f) (others : List Bool) :
    (others.foldl Bi.bitTime b).tx = b.tx ∧ (others.foldl Bi.bitTime b).rx = b.rx ∧
      (f.begun + others.length ≤ 11 * f.chars.length →
        (others.foldl Bi.bitTime b).inFlight = some { f with begun := f.begun + others.length }) := by
  induction others using List.reverseRecOn with
  | nil => exact ⟨rfl, rfl, fun _ => hf⟩
  | append_singleton l o ih =>
    obtain ⟨htx, hrx, hin⟩ := ih
    rw [List.foldl_append]
    refine ⟨htx, hrx, fun h => ?_⟩
    rw [List.length_append, List.length_singleton] at h ⊢
    show ((l.foldl Bi.bitTime b).inFlight).map InFlight.nextBit = _
    rw [hin (by omega)]
    exact congrArg some (if_pos (by show f.begun + l.length < 11 * f.chars.length; omega))

/-- SBD of a frame in flight is the bit that has begun last. -/
theorem Bi.sbd_sending {b : Bi} {f : InFlight} (htx : b.tx = .sending) (hf : b.inFlight = some f) : b.sbd = f.level := by
  rw [Bi.sbd, htx, hf]

theorem Bi.sbd_idle {b : Bi} (h : b.tx ≠ .aborting) (h' : b.tx ≠ .sending) : b.sbd = true := by
  unfold Bi.sbd
  split
  next htx _ => exact absurd htx h'
  next htx => exact absurd htx h
  · rfl

theorem Bi.sbd_aborting {b : Bi} (h : b.tx = .aborting) : b.sbd = false := by
  unfold Bi.sbd
  rw [h]

/-- Settles O55: the characters one by one, and the bits of each on the line. -/
theorem frameSentIsFrameTaken : Obligations.FrameSentIsFrameTaken := by
  refine ⟨fun s src k payload hrx hp hsrc ha hl hd => ⟨_, takeChars_frame hrx hp hsrc ha hl hd, rfl⟩,
    fun c => ⟨lineEvent_word c, c.word_bits⟩, fun w hstart hstop => ?_, fun b f others bit htx hf hbegun hne hbit => ?_,
    fun b others htx hrx => ?_, fun b => ⟨Bi.sbd_aborting, Bi.sbd_idle⟩⟩
  · rw [lineEvent, hstart, hstop]
    rfl
  · obtain ⟨init, last, rfl⟩ := eq_append_last hne
    rw [List.length_append, List.length_singleton, Nat.add_sub_cancel] at hbit
    obtain ⟨htx', hrx', hin⟩ := bitTimes_inFlight hf (init ++ [last])
    have hlt : init.length < 11 * f.chars.length := by
      have := (List.getElem?_eq_some_iff.1 hbit).1
      rw [lineBits_length, List.length_map] at this
      exact this
    rw [hbegun, List.length_append, List.length_singleton, Nat.zero_add] at hin
    have hsbd : ((init ++ [last]).foldl Bi.bitTime b).sbd = bit := by
      rw [Bi.sbd_sending (htx'.trans htx) (hin hlt)]
      show (charBits f.chars).getD init.length true = bit
      rw [List.getD_eq_getElem?_getD, charBits, hbit]
      rfl
    refine ⟨hsbd, fun hon => ?_⟩
    rw [List.foldl_append] at hsbd hrx' htx' ⊢
    have hline := (Bi.bitTime_line (init.foldl Bi.bitTime b) last).2.1
    exact (hline (by rw [show (init.foldl Bi.bitTime b).rx = b.rx from hrx']; exact hon) (htx'.trans htx)).trans hsbd
  · have hsbd : (b.bitTime others).sbd = b.sbd := by
      by_cases h : b.tx = .aborting
      · exact (Bi.sbd_aborting (b := b.bitTime others) h).trans (Bi.sbd_aborting h).symm
      · exact (Bi.sbd_idle (b := b.bitTime others) h htx).trans (Bi.sbd_idle h htx).symm
    rw [Bi.bitTime_sbs, if_neg hrx, if_neg htx, hsbd]

end Sys2Proof.Machine
end

section
/-! SUPPORT. The node state controller: the passages, the HALT, the wakes, the period notice and the timers (R142 to R152). -/

namespace Sys2Proof.Machine

/-! ## The passages (R142) -/

theorem State.enterNode_active (s : State) : s.enterNode .active = { s with
    nsc := { s.nsc with node := .active, flt := false, joinCount := 0, clearRun := 0, rejoin := none }
    handed := s.handed ++ s.nodeNotices s.nsc.node .active } := rfl

theorem State.enterNode_degraded (s : State) : s.enterNode .degraded = { s with
    nsc := { s.nsc with node := .degraded, flt := false, clearRun := 0, dormantDwell := none, rejoin := none }
    handed := s.handed ++ s.nodeNotices s.nsc.node .degraded } := rfl

/-- Where a condition takes a node out of running to (R146, R153). -/
def State.away (s : State) (c : Condition) : NodeState :=
  if s.role = .steer ∨ c = .voteOutlier ∨ s.prm.vFree ≤ s.nsc.speed.value then .free else .clamped

theorem State.away_cases (s : State) (c : Condition) : s.away c = .free ∨ s.away c = .clamped := by
  unfold State.away
  split
  · exact .inl rfl
  · exact .inr rfl

theorem State.leaveRunning_eq (s : State) (c : Condition) : s.leaveRunning c = { s with
    nsc := { s.nsc with node := s.away c, flt := true, dormantDwell := none, rejoin := none }
    handed := s.handed ++ s.nodeNotices s.nsc.node (s.away c) } := by
  show s.enterNode (s.away c) = _
  rcases s.away_cases c with h | h <;> rw [h] <;> rfl

/-! ## What a condition that becomes present does (R141, R145 to R147) -/

/-- A serious condition takes a running or dormant node out of running. -/
theorem State.onPresent_serious {s : State} {c : Condition} (hc : isSerious c = true)
    (h : s.nsc.node = .active ∨ s.nsc.node = .degraded ∨ s.nsc.node = .dormant) : s.onPresent c = s.leaveRunning c := by
  rcases h with h | h | h <;> rw [State.onPresent, h] <;> exact if_pos hc

/-- OVERLEAN and HALT_TAKEN take LISTEN away too. -/
theorem State.onPresent_listen {s : State} {c : Condition} (hc : c = .overlean ∨ c = .haltTaken) (h : s.nsc.node = .listen) :
    s.onPresent c = s.leaveRunning c := by
  rw [State.onPresent, h]
  exact if_pos hc

/-- A degrading condition takes a running or dormant node to DEGRADED, or starts its clear run again there. -/
theorem State.onPresent_degrading {s : State} {c : Condition} (hs : isSerious c = false) (hc : isDegrading c = true)
    (h : s.nsc.node = .active ∨ s.nsc.node = .degraded ∨ s.nsc.node = .dormant) : s.onPresent c =
      if s.nsc.node = .degraded then s.setNsc { s.nsc with clearRun := 0 } else s.enterNode .degraded := by
  have hno : ¬isSerious c = true := by rw [hs]; exact Bool.false_ne_true
  rcases h with h | h | h <;> rw [State.onPresent, h] <;> exact (if_neg hno).trans (if_pos hc)

/-- CONFIG_BAD halts START. -/
theorem State.onPresent_configBad {s : State} (h : s.nsc.node = .start) : s.onPresent .configBad = s.enterNode .halted := by
  rw [State.onPresent, h]
  exact if_pos rfl

/-- A node that is away stays where it is. -/
theorem State.onPresent_away {s : State} {c : Condition} (h : s.nsc.node = .free ∨ s.nsc.node = .clamped) : s.onPresent c = s := by
  rcases h with h | h <;> rw [State.onPresent, h]

/-- In every other case nothing moves. -/
theorem State.onPresent_rest {s : State} {c : Condition}
    (hout : ¬((s.nsc.node = .active ∨ s.nsc.node = .degraded ∨ s.nsc.node = .dormant) ∧
      (isSerious c = true ∨ isDegrading c = true)))
    (hlisten : ¬(s.nsc.node = .listen ∧ (c = .overlean ∨ c = .haltTaken)))
    (hstart : ¬(s.nsc.node = .start ∧ c = .configBad)) : s.onPresent c = s := by
  rw [State.onPresent]
  split
  next h => exact (if_neg fun hc => hout ⟨.inl h, .inl hc⟩).trans (if_neg fun hc => hout ⟨.inl h, .inr hc⟩)
  next h => exact (if_neg fun hc => hout ⟨.inr (.inr h), .inl hc⟩).trans (if_neg fun hc => hout ⟨.inr (.inr h), .inr hc⟩)
  next h => exact (if_neg fun hc => hout ⟨.inr (.inl h), .inl hc⟩).trans (if_neg fun hc => hout ⟨.inr (.inl h), .inr hc⟩)
  next h => exact if_neg fun hc => hlisten ⟨h, hc⟩
  next h => exact if_neg fun hc => hstart ⟨h, hc⟩
  all_goals rfl

/-! ## The HALT (R148) -/

/-- With HALT_TAKEN latched the rejoin timer does not run. -/
theorem Nsc.rejoinHolds_halt {n : Nsc} (h : n.latches.has .haltTaken = true) : n.rejoinHolds = false := by
  simp [Nsc.rejoinHolds, Nsc.heldOut, h]

theorem State.evalRejoin_halt {s : State} (h : s.nsc.latches.has .haltTaken = true) :
    s.evalRejoin = s.setNsc { s.nsc with rejoin := none } := by
  rw [State.evalRejoin, Nsc.rejoinHolds_halt h]
  rfl

/-- The hand-offs of a passage, by the role. -/
theorem State.nodeNotices_tilt {s : State} (h : s.role.isTilt = true) (old new : NodeState) : s.nodeNotices old new =
    [.nodeStateChangeLe old new, .nodeStateChangeTsu old new, .nodeStateChangeBcu old new] := by
  have hne : s.role ≠ .steer := by rintro h'; rw [h'] at h; exact Bool.noConfusion h
  simp [State.nodeNotices, State.hasBcu, h, hne]

theorem State.nodeNotices_steer {s : State} (h : s.role = .steer) (old new : NodeState) :
    s.nodeNotices old new = [.nodeStateChangeLe old new, .nodeStateChangeSlu old new] := by
  simp [State.nodeNotices, State.hasBcu, h, Role.isTilt]

/-- Settles O41: the HALT stored and latched, and the passage where the node is not away already. -/
theorem haltTakesTheNodeOut : Obligations.HaltTakesTheNodeOut := by
  refine ⟨fun s src reason detail role hlive => ?_, fun s old new => ⟨fun h => s.nodeNotices_tilt h old new,
    fun h => s.nodeNotices_steer h old new⟩⟩
  let n : Nsc := s.nsc.takeHalt ⟨src, reason, detail⟩
  let u : State := (s.taken (.haltHandoff src reason detail role)).setNsc n
  have hexec : exec (.haltHandoff src reason detail role) s = .next (u.onPresent .haltTaken).evalRejoin :=
    congrArg Host.Outcome.next (if_pos hlive)
  have hlatch : n.latches.has .haltTaken = true := by
    show (s.nsc.putCondition .haltTaken true).latches.has _ = true
    rw [Nsc.putCondition_latches_has]
    simp [isLatched]
  have hpresent : n.present.has .haltTaken = true := by
    show (s.nsc.putCondition .haltTaken true).present.has _ = true
    rw [Nsc.putCondition_present_has, if_pos rfl]
  have hother (d : Condition) (hd : d ≠ .haltTaken) : n.present.has d = s.nsc.present.has d ∧ n.latches.has d = s.nsc.latches.has d := by
    show (s.nsc.putCondition .haltTaken true).present.has d = _ ∧ (s.nsc.putCondition .haltTaken true).latches.has d = _
    rw [Nsc.putCondition_present_has, Nsc.putCondition_latches_has, if_neg hd, decide_eq_false hd]
    simp
  by_cases haway : s.nsc.node = .free ∨ s.nsc.node = .clamped
  · rw [State.onPresent_away (s := u) haway, State.evalRejoin_halt (s := u) hlatch] at hexec
    exact ⟨_, hexec, rfl, hlatch, hpresent, rfl, hother, fun _ => ⟨rfl, rfl, rfl, rfl⟩,
      fun h1 h2 => absurd haway (not_or.2 ⟨h1, h2⟩), rfl⟩
  · have hmove : u.onPresent .haltTaken = u.leaveRunning .haltTaken := by
      have hcases : s.nsc.node = .listen ∨ s.nsc.node = .active ∨ s.nsc.node = .degraded ∨ s.nsc.node = .dormant := by
        revert hlive haway
        cases s.nsc.node <;> simp [NodeState.live]
      rcases hcases with h | h
      · exact State.onPresent_listen (s := u) (.inr rfl) h
      · exact State.onPresent_serious (s := u) rfl h
    have hnode : u.away .haltTaken = if s.role = .steer ∨ s.prm.vFree ≤ s.nsc.speed.value then .free else .clamped := by
      unfold State.away
      exact if_congr (by simp [u, n]; rfl) rfl rfl
    have hhalt : (u.leaveRunning .haltTaken).nsc.latches.has .haltTaken = true := by
      rw [State.leaveRunning_eq]
      exact hlatch
    rw [hmove, State.evalRejoin_halt hhalt, State.leaveRunning_eq] at hexec
    exact ⟨_, hexec, rfl, hlatch, hpresent, rfl, hother, fun h => absurd h haway, fun _ _ => ⟨hnode, rfl, rfl, rfl⟩, rfl⟩

end Sys2Proof.Machine
end

section
/-! SUPPORT. The wakes, the period notice and the timers of the NSC (R144, R145, R149, R150, R152). -/

namespace Sys2Proof.Machine

/-! ## The wake causes (R152) -/

theorem State.movingSeen_iff (s : State) : s.movingSeen = true ↔
    ∃ c ∈ s.candidates, ∃ v, c.value = some v ∧ c.fresh.heard = true ∧ s.prm.vStand < v := by
  have seen (c : Candidate) : (c.fresh.heard && (match c.value with | some v => decide (s.prm.vStand < v) | none => false)) = true ↔
      ∃ v, c.value = some v ∧ c.fresh.heard = true ∧ s.prm.vStand < v := by
    cases c.value <;> simp
  rw [State.movingSeen, List.any_eq_true]
  exact exists_congr fun c => and_congr_right fun _ => seen c

theorem State.leanMoved_iff (s : State) (phi : Option Int) : s.leanMoved phi = true ↔
    ∃ x y, phi = some x ∧ s.nsc.entryLean = some y ∧ 100 < (x - y).natAbs := by
  unfold State.leanMoved
  cases phi <;> cases s.nsc.entryLean
  case some.some => exact decide_eq_true_iff.trans ⟨fun h => ⟨_, _, rfl, rfl, Int.ofNat_lt.1 h⟩,
    fun ⟨_, _, hx, hy, h⟩ => by cases hx; cases hy; exact Int.ofNat_lt.2 h⟩
  all_goals simp

theorem State.torqueWakes_iff (s : State) (tau : Option Int) : s.torqueWakes tau = true ↔
    ∃ x, tau = some x ∧ s.prm.wake < x.natAbs := by
  unfold State.torqueWakes
  cases tau <;> simp

/-- The STEER station's RIDER wakes a tilt station by its torque. -/
theorem State.riderWakes_iff (s : State) (src : Addr) :
    s.torqueWakes ((s.row src.toNat).rider.map (fun q => q.1.tauH.toInt)) = true ↔
      ∃ r st, (s.row src.toNat).rider = some (r, st) ∧ s.prm.wake < r.tauH.toInt.natAbs := by
  rw [State.torqueWakes_iff]
  cases (s.row src.toNat).rider
  · simp
  next q => exact ⟨fun ⟨_, hx, h⟩ => ⟨q.1, q.2, rfl, by cases hx; exact h⟩, fun ⟨_, _, hr, h⟩ => ⟨_, rfl, by cases hr; exact h⟩⟩

/-- The causes a frame notice can be. -/
theorem State.frameWakes_iff (s : State) (src : Addr) (k : FrameKind) : s.frameWakes src k = true ↔
    (k = .override ∨ k = .release ∨ k = .query ∨ k = .clear ∨
      (k = .rider ∧ s.role.isTilt = true ∧ s.roleOf src.toNat = .steer ∧
        ∃ r st, (s.row src.toNat).rider = some (r, st) ∧ s.prm.wake < r.tauH.toInt.natAbs) ∨
      (k = .contrib ∧ s.role = .steer ∧ (s.roleOf src.toNat).isTilt = true ∧
        ∃ x y, s.measured = some x ∧ s.nsc.entryLean = some y ∧ 100 < (x - y).natAbs) ∨
      (∃ c ∈ s.candidates, ∃ v, c.value = some v ∧ c.fresh.heard = true ∧ s.prm.vStand < v)) := by
  rw [← State.movingSeen_iff, ← State.leanMoved_iff, ← State.riderWakes_iff]
  cases k <;> simp [State.frameWakes, and_assoc]

/-- A cause wakes a DORMANT node. -/
theorem State.wakeWhen_dormant {s : State} {b : Bool} (h : s.nsc.node = .dormant) (hb : b = true) :
    s.wakeWhen b = s.enterNode .active := if_pos ⟨h, hb⟩

/-- Without a cause, and out of DORMANT, nothing wakes. -/
theorem State.wakeWhen_stays {s : State} {b : Bool} (h : s.nsc.node ≠ .dormant ∨ b = false) : s.wakeWhen b = s :=
  if_neg fun hb => h.elim (fun hn => hn hb.1) fun hf => Bool.false_ne_true (hf.symm.trans hb.2)

/-- Settles O42: the causes of a frame notice, and the wake-cause report. -/
theorem noticesWakeADormantNode : Obligations.NoticesWakeADormantNode := by
  constructor
  · intro s src k cause
    let u := s.taken (.frameNotice src k)
    have hexec : exec (.frameNotice src k) s = .next (u.wakeWhen (u.frameWakes src k)) := rfl
    have hcause : u.frameWakes src k = true ↔ cause := State.frameWakes_iff u src k
    by_cases hwake : s.nsc.node = .dormant ∧ cause
    · rw [State.wakeWhen_dormant (s := u) hwake.1 (hcause.2 hwake.2), State.enterNode_active] at hexec
      refine ⟨_, hexec, fun _ _ => ⟨rfl, rfl, rfl, rfl, rfl, ?_⟩, fun h => ?_, rfl⟩
      · show _ ++ s.nodeNotices s.nsc.node .active = _
        rw [hwake.1]
        rfl
      · exact absurd h (not_or.2 ⟨not_not.2 hwake.1, not_not.2 hwake.2⟩)
    · have hstay : u.nsc.node ≠ .dormant ∨ u.frameWakes src k = false := by
        rcases not_and_or.1 hwake with h | h
        · exact .inl h
        · exact .inr (Bool.eq_false_iff.2 fun hf => h (hcause.1 hf))
      rw [State.wakeWhen_stays hstay] at hexec
      exact ⟨u, hexec, fun h hc => absurd ⟨h, hc⟩ hwake, fun _ => rfl, rfl⟩
  · intro s
    have hexec : exec .wakeCauseReport s = .next ((s.taken .wakeCauseReport).wakeWhen true) := rfl
    refine ⟨fun h => ?_, fun h => ?_⟩
    · rw [hexec, State.wakeWhen_dormant (s := s.taken .wakeCauseReport) h rfl, State.enterNode_active, ← h]
      rfl
    · rw [hexec, State.wakeWhen_stays (s := s.taken .wakeCauseReport) (.inl h)]
      rfl

/-! ## The period notice (R144, R145) -/

theorem State.brakeClause_iff (s : State) : s.brakeClause = true ↔
    (s.bcu.switch = .engaged ∧ s.pvu.speed < s.prm.vStand) ∨
      (s.bcu.switch = .released ∧ ∃ c, s.partnerContrib = some (c, .fresh) ∧ c.running = true) := by
  unfold State.brakeClause
  cases h : s.partnerContrib
  case none => simp
  case some q =>
    have hq : (∃ c, some q = some (c, Freshness.fresh) ∧ c.running = true) ↔ q.2 = .fresh ∧ q.1.running = true :=
      ⟨fun ⟨_, he, hr⟩ => by cases he; exact ⟨rfl, hr⟩, fun ⟨hf, hr⟩ => ⟨q.1, congrArg some (Prod.ext rfl hf), hr⟩⟩
    rw [hq]
    simp

theorem Nsc.heldOut_iff (n : Nsc) : n.heldOut = false ↔
    n.latches.has .overlean = false ∧ n.latches.has .haltTaken = false ∧ n.latches.has .voteOutlier = false := by
  simp [Nsc.heldOut, and_assoc]

/-- The join test (R144). -/
theorem State.joinTest_iff (s : State) : s.joinTest = true ↔
    s.channel1.state = .good ∧ s.channel2.state = .good ∧ s.pvu.speedStatus.heard = true ∧
      s.pvu.viewStatus = .live ∧ (∀ c, isSerious c = true → s.nsc.present.has c = false) ∧
      s.nsc.latches.has .overlean = false ∧ s.nsc.latches.has .haltTaken = false ∧
      s.nsc.latches.has .voteOutlier = false ∧
      (s.role.isTilt = true → (s.bcu.switch = .engaged ∧ s.pvu.speed < s.prm.vStand) ∨
        (s.bcu.switch = .released ∧ ∃ c, s.partnerContrib = some (c, .fresh) ∧ c.running = true)) := by
  have hbrake : (!s.role.isTilt || s.brakeClause) = true ↔ (s.role.isTilt = true → s.brakeClause = true) := by
    cases s.role.isTilt <;> simp
  rw [State.joinTest, ← State.brakeClause_iff, ← hbrake, ← CondSet.anyOf_false_iff]
  have hheld := s.nsc.heldOut_iff
  simp only [Bool.and_eq_true, beq_iff_eq, Bool.not_eq_true', hheld, and_assoc]

theorem State.countPeriod_joining {s : State} (h : s.nsc.node = .listen) (hj : s.joinTest = true) : s.countPeriod =
    if 24 ≤ s.nsc.joinCount then s.enterNode .active else s.setNsc { s.nsc with joinCount := s.nsc.joinCount + 1 } := by
  rw [State.countPeriod, h]
  exact (if_pos hj).trans (if_congr Nat.succ_le_succ_iff rfl rfl)

theorem State.countPeriod_not_joining {s : State} (h : s.nsc.node = .listen) (hj : s.joinTest = false) :
    s.countPeriod = s.setNsc { s.nsc with joinCount := 0 } := by
  rw [State.countPeriod, h]
  exact if_neg fun hf => Bool.false_ne_true (hj.symm.trans hf)

theorem State.countPeriod_degraded {s : State} (h : s.nsc.node = .degraded) (hd : s.nsc.present.anyOf isDegrading = true) :
    s.countPeriod = s.setNsc { s.nsc with clearRun := 0 } := by
  rw [State.countPeriod, h]
  exact if_pos hd

theorem State.countPeriod_clearing {s : State} (h : s.nsc.node = .degraded) (hd : s.nsc.present.anyOf isDegrading = false) :
    s.countPeriod =
      if 9 ≤ s.nsc.clearRun then s.enterNode .active else s.setNsc { s.nsc with clearRun := s.nsc.clearRun + 1 } := by
  rw [State.countPeriod, h]
  exact (if_neg fun hf => Bool.false_ne_true (hd.symm.trans hf)).trans (if_congr Nat.succ_le_succ_iff rfl rfl)

theorem State.countPeriod_degrading {s : State} (h : s.nsc.node = .active) (hd : s.nsc.present.anyOf isDegrading = true) :
    s.countPeriod = s.enterNode .degraded := by
  rw [State.countPeriod, h]
  exact if_pos hd

theorem State.countPeriod_clear {s : State} (h : s.nsc.node = .active) (hd : s.nsc.present.anyOf isDegrading = false) :
    s.countPeriod = s := by
  rw [State.countPeriod, h]
  exact if_neg fun hf => Bool.false_ne_true (hd.symm.trans hf)

theorem State.countPeriod_other {s : State} (hl : s.nsc.node ≠ .listen) (hd : s.nsc.node ≠ .degraded) (ha : s.nsc.node ≠ .active) :
    s.countPeriod = s := by
  unfold State.countPeriod
  split
  next h => exact absurd h hl
  next h => exact absurd h hd
  next h => exact absurd h ha
  next => rfl

/-- A period notice either passes to ACTIVE or DEGRADED from elsewhere, or counts: the join count in LISTEN, the clear run in
DEGRADED. -/
theorem State.countPeriod_cases (s : State) :
    (∃ new, s.countPeriod = s.enterNode new ∧ new ≠ s.nsc.node ∧ (new = .active ∨ new = .degraded) ∧
      (s.nsc.node = .listen ∨ s.nsc.node = .degraded ∨ s.nsc.node = .active)) ∨
    ∃ j c, s.countPeriod = s.setNsc { s.nsc with joinCount := j, clearRun := c } ∧
      (s.nsc.node ≠ .listen → j = s.nsc.joinCount) ∧ (s.nsc.node ≠ .degraded → c = s.nsc.clearRun) := by
  by_cases hl : s.nsc.node = .listen
  · cases hj : s.joinTest
    · exact .inr ⟨_, _, s.countPeriod_not_joining hl hj, fun h => absurd hl h, fun _ => rfl⟩
    · have hw := State.countPeriod_joining hl hj
      split at hw
      · exact .inl ⟨_, hw, by rw [hl]; exact NodeState.noConfusion, .inl rfl, .inl hl⟩
      · exact .inr ⟨_, _, hw, fun h => absurd hl h, fun _ => rfl⟩
  by_cases hd : s.nsc.node = .degraded
  · cases hc : s.nsc.present.anyOf isDegrading
    · have hw := State.countPeriod_clearing hd hc
      split at hw
      · exact .inl ⟨_, hw, by rw [hd]; exact NodeState.noConfusion, .inl rfl, .inr (.inl hd)⟩
      · exact .inr ⟨_, _, hw, fun _ => rfl, fun h => absurd hd h⟩
    · exact .inr ⟨_, _, State.countPeriod_degraded hd hc, fun _ => rfl, fun h => absurd hd h⟩
  by_cases ha : s.nsc.node = .active
  · cases hc : s.nsc.present.anyOf isDegrading
    · exact .inr ⟨_, _, State.countPeriod_clear ha hc, fun _ => rfl, fun _ => rfl⟩
    · exact .inl ⟨_, State.countPeriod_degrading ha hc, by rw [ha]; exact NodeState.noConfusion, .inr rfl, .inr (.inr ha)⟩
  · exact .inr ⟨_, _, State.countPeriod_other hl hd ha, fun _ => rfl, fun _ => rfl⟩

/-- Settles O44: the passages and counts of a period notice, then the dormant dwell. -/
theorem periodNoticeJoinsAndClears : Obligations.PeriodNoticeJoinsAndClears := by
  intro s hlive
  let u := s.taken .periodNotice
  let w := u.countPeriod
  have hdwell : w.nsc.dormantDwell =
      if w.nsc.node = s.nsc.node ∨ w.nsc.node = .active then s.nsc.dormantDwell else none := by
    rcases u.countPeriod_cases with ⟨new, hw, hne, hnew, _⟩ | ⟨j, c, hw, _, _⟩
    · show u.countPeriod.nsc.dormantDwell = if u.countPeriod.nsc.node = _ ∨ u.countPeriod.nsc.node = _ then _ else _
      rw [hw]
      rcases hnew with rfl | rfl
      · exact (if_pos (.inr rfl)).symm
      · exact (if_neg (not_or.2 ⟨hne, NodeState.noConfusion⟩)).symm
    · show u.countPeriod.nsc.dormantDwell = if u.countPeriod.nsc.node = _ ∨ u.countPeriod.nsc.node = _ then _ else _
      rw [hw]
      exact (if_pos (.inl rfl)).symm
  have hruns := State.evalDormant_runs s w s.pvu.speed s.pvu.speedStatus hdwell
  have hexec : exec .periodNotice s = .next (w.evalDormant s.nsc.node s.pvu.speed s.pvu.speedStatus) :=
    congrArg Host.Outcome.next (if_pos hlive)
  rw [State.evalDormant_eq] at hruns hexec
  revert hruns hexec
  generalize (w.evalDormant s.nsc.node s.pvu.speed s.pvu.speedStatus).nsc.dormantDwell = d
  intro hruns hexec
  have hdeg (h : ∃ c, isDegrading c = true ∧ s.nsc.present.has c = true) : s.nsc.present.anyOf isDegrading = true :=
    (CondSet.anyOf_iff _ _).2 h
  have hclear (h : ∀ c, isDegrading c = true → s.nsc.present.has c = false) : s.nsc.present.anyOf isDegrading = false :=
    (CondSet.anyOf_false_iff _ _).2 h
  refine ⟨_, hexec, fun hn hj => ?_, fun hn hj => ?_, s.joinTest_iff, fun hn hd => ?_, fun hn hd => ?_, fun hn hd => ?_,
    fun hn hd => ?_, ?_, ?_, hruns, ?_⟩
  · refine ⟨fun hlt => ?_, fun hle => ?_⟩
    · have hw : w = _ := (State.countPeriod_joining (s := u) hn hj).trans (if_neg (Nat.not_le.2 hlt))
      rw [hw]
      exact ⟨hn, rfl⟩
    · have hw : w = _ := (State.countPeriod_joining (s := u) hn hj).trans (if_pos hle)
      rw [hw]
      exact ⟨rfl, rfl, rfl⟩
  · have hw : w = _ := State.countPeriod_not_joining (s := u) hn hj
    rw [hw]
    exact ⟨hn, rfl⟩
  · have hw : w = _ := State.countPeriod_degraded (s := u) hn (hdeg hd)
    rw [hw]
    exact ⟨hn, rfl⟩
  · refine ⟨fun hlt => ?_, fun hle => ?_⟩
    · have hw : w = _ := (State.countPeriod_clearing (s := u) hn (hclear hd)).trans (if_neg (Nat.not_le.2 hlt))
      rw [hw]
      exact ⟨hn, rfl⟩
    · have hw : w = _ := (State.countPeriod_clearing (s := u) hn (hclear hd)).trans (if_pos hle)
      rw [hw]
      exact ⟨rfl, rfl⟩
  · have hw : w = _ := State.countPeriod_degrading (s := u) hn (hdeg hd)
    rw [hw]
    exact ⟨rfl, rfl⟩
  · have hw : w = _ := State.countPeriod_clear (s := u) hn (hclear hd)
    rw [hw]
    exact ⟨hn, rfl⟩
  all_goals rcases u.countPeriod_cases with ⟨new, hw, hne, hnew, hout⟩ | ⟨j, c, hw, hj, hc⟩
  all_goals replace hw : w = _ := hw; rw [hw]
  · intro hn ht
    exact absurd (hn.trans ht.symm) hne.symm
  · exact fun hn _ => hc (by rw [show u.nsc.node = _ from hn]; exact NodeState.noConfusion)
  · exact fun _ ht => absurd ht hne
  · exact fun hn _ => hj hn
  · refine ⟨?_, ?_, ?_, rfl, rfl, (if_neg hne).symm, ?_⟩
    · rcases hnew with rfl | rfl <;> exact (if_neg hne).symm
    · exact congrArg (s.handed.erase Instr.periodNotice ++ ·) (if_neg hne).symm
    · intro h
      rcases h with h | h | h <;> rw [show u.nsc.node = _ from h] at hout <;> simp at hout
    · rcases hnew with rfl | rfl <;> rfl
  · refine ⟨(if_pos rfl).symm, ?_, fun h => ?_, rfl, rfl, (if_pos rfl).symm, rfl⟩
    · exact (List.append_nil _).symm.trans (congrArg (s.handed.erase Instr.periodNotice ++ ·) (if_pos rfl).symm)
    · have hnode : s.nsc.node ≠ .listen ∧ s.nsc.node ≠ .degraded ∧ s.nsc.node ≠ .active := by
        rcases h with h | h | h <;> rw [h] <;> exact ⟨NodeState.noConfusion, NodeState.noConfusion, NodeState.noConfusion⟩
      obtain ⟨hnl, hnd, hna⟩ := hnode
      rw [hw] at hruns
      have hkeep : d = s.nsc.dormantDwell := hruns.2.2 hna (.inl rfl)
      show { s.nsc with joinCount := j, clearRun := c, dormantDwell := d } = s.nsc
      rw [hj hnl, hc hnd, hkeep]
      rfl

/-! ## The top-change notice and the timers (R149, R150, R152) -/

/-- The rejoin timer does not run in LISTEN. -/
theorem State.evalRejoin_listen {s : State} (h : s.nsc.node = .listen) : s.evalRejoin = s.setNsc { s.nsc with rejoin := none } := by
  have hno : s.nsc.rejoinHolds = false := by simp [Nsc.rejoinHolds, h]
  rw [State.evalRejoin, hno]
  rfl

/-- Settles O45: the wake and the dwell at a top change, the rejoining, and the entry to DORMANT. -/
theorem dormancyAndRejoining : Obligations.DormancyAndRejoining := by
  refine ⟨fun s top hlive => ?_, fun s n hn => ⟨fun hle hnode => ?_, fun hlt => ?_⟩,
    fun s n hn hnode => ?_⟩
  · let u : State := (s.taken (.topChangeNoticeNsc top)).setNsc { s.nsc with topCopy := top.map (fun q => q.kind) }
    let cause : Bool := top.map (fun q => q.kind) != some .park
    let w : State := u.wakeWhen cause
    have hcases : (s.nsc.node = .dormant ∧ cause = true ∧ w = u.enterNode .active) ∨
        ((s.nsc.node ≠ .dormant ∨ cause = false) ∧ w = u) := by
      by_cases h : s.nsc.node = .dormant ∧ cause = true
      · exact .inl ⟨h.1, h.2, if_pos h⟩
      · exact .inr ⟨(not_and_or.1 h).imp_right Bool.eq_false_iff.2, if_neg h⟩
    have hdwell : w.nsc.dormantDwell =
        if w.nsc.node = s.nsc.node ∨ w.nsc.node = .active then s.nsc.dormantDwell else none := by
      rcases hcases with ⟨_, _, hw⟩ | ⟨_, hw⟩ <;> rw [hw]
      · exact (if_pos (.inr rfl)).symm
      · exact (if_pos (.inl rfl)).symm
    have hruns := State.evalDormant_runs s w s.pvu.speed s.pvu.speedStatus hdwell
    have hexec : exec (.topChangeNoticeNsc top) s = .next (w.evalDormant s.nsc.node s.pvu.speed s.pvu.speedStatus) :=
      congrArg Host.Outcome.next (if_pos hlive)
    rw [State.evalDormant_eq] at hruns hexec
    rcases hcases with ⟨hd, hc, hw⟩ | ⟨hstay, hw⟩
    · have hne : NodeState.active ≠ s.nsc.node := by rw [hd]; exact NodeState.noConfusion
      rw [hw] at hexec hruns
      refine ⟨_, hexec, rfl, fun _ => (if_neg (bne_iff_ne.1 hc)).symm, fun h => absurd hd h, hruns, ?_, (if_neg hne).symm,
        (if_neg hne).symm, (if_neg hne).symm, (if_neg hne).symm, rfl⟩
      exact congrArg (s.handed.erase (.topChangeNoticeNsc top) ++ ·)
        ((congrArg (s.nodeNotices · .active) hd).trans (if_neg hne).symm)
    · rw [hw] at hexec hruns
      refine ⟨_, hexec, rfl, fun hd => ?_, fun _ => rfl, hruns, ?_, (if_pos rfl).symm, (if_pos rfl).symm, (if_pos rfl).symm,
        (if_pos rfl).symm, rfl⟩
      · have hpark : top.map (fun q => q.kind) = some .park := by
          simpa [cause] using hstay.resolve_left fun h => h hd
        exact hd.trans (if_pos hpark).symm
      · exact (List.append_nil _).symm.trans (congrArg (s.handed.erase (.topChangeNoticeNsc top) ++ ·) (if_pos rfl).symm)
  · have hlimit : s.nsc.rejoin.atLimit Config.tRejoin = true := by rw [hn]; exact decide_eq_true hle
    have hexec : exec .rejoinTimerExpiry s = .next (s.enterNode .listen).evalRejoin :=
      congrArg Host.Outcome.next (if_pos ⟨hlimit, hnode⟩)
    rw [hexec, State.evalRejoin_listen rfl]
    rfl
  · have hlimit : ¬s.nsc.rejoin.atLimit Config.tRejoin = true := by
      rw [hn]
      exact fun h => absurd (of_decide_eq_true h) (Nat.not_le.2 hlt)
    exact congrArg Host.Outcome.next (if_neg fun h => hlimit h.1)
  · refine ⟨fun hle hh => ?_, fun hle hh => ?_, fun hlt => ?_⟩
    · have hlimit : s.nsc.dormantDwell.atLimit (s.prm.tDormant * 1000) = true := by rw [hn]; exact decide_eq_true hle
      have hexec : exec .dormantDwellExpiry s = .next (s.enterNode .dormant) :=
        congrArg Host.Outcome.next ((if_pos ⟨hlimit, hnode⟩).trans (if_pos ((s.dormantHolds_iff _ _).2 hh)))
      rw [hexec, ← hnode]
      rfl
    · have hlimit : s.nsc.dormantDwell.atLimit (s.prm.tDormant * 1000) = true := by rw [hn]; exact decide_eq_true hle
      exact congrArg Host.Outcome.next ((if_pos ⟨hlimit, hnode⟩).trans (if_neg fun h => hh ((s.dormantHolds_iff _ _).1 h)))
    · have hlimit : ¬s.nsc.dormantDwell.atLimit (s.prm.tDormant * 1000) = true := by
        rw [hn]
        exact fun h => absurd (of_decide_eq_true h) (Nat.not_le.2 hlt)
      exact congrArg Host.Outcome.next (if_neg fun h => hlimit h.1)

end Sys2Proof.Machine
end

section
/-! SUPPORT. A condition found present or absent, and the events of the NSC that find one (R139 to R141, R145 to R149). -/

namespace Sys2Proof.Machine

/-! ## A report (R140, R141) -/

theorem State.report_same {s : State} {c : Condition} {b : Bool} (h : s.nsc.present.has c = b) : s.report c b = s := if_pos h

/-- A condition newly present is put in, then acts by its class. -/
theorem State.report_new {s : State} {c : Condition} (h : s.nsc.present.has c = false) :
    s.report c true = (s.setNsc (s.nsc.putCondition c true)).onPresent c :=
  (if_neg fun ht => Bool.false_ne_true (h.symm.trans ht)).trans (if_pos rfl)

/-- A condition gone changes no more than the present set. -/
theorem State.report_gone {s : State} {c : Condition} (h : s.nsc.present.has c = true) :
    ∃ x, s.report c false = s.setNsc { s.nsc with present := x } := by
  have hne : ¬s.nsc.present.has c = false := fun hf => Bool.false_ne_true (hf.symm.trans h)
  by_cases hs : staysPresent c = true
  · exact ⟨_, (if_neg hne).trans ((if_neg Bool.false_ne_true).trans (if_pos hs))⟩
  · exact ⟨_, (if_neg hne).trans ((if_neg Bool.false_ne_true).trans (if_neg hs))⟩

/-- A passage of a condition that becomes present stops the rejoin timer. -/
theorem State.onPresent_rejoin (s : State) (c : Condition) :
    (s.onPresent c).nsc.rejoin = if (s.onPresent c).nsc.node = s.nsc.node then s.nsc.rejoin else none := by
  unfold State.onPresent
  cases h : s.nsc.node <;> simp only [State.leaveRunning] <;> (repeat' split) <;>
    simp_all [State.enterNode, Nsc.enter, State.setNsc, State.hand]

theorem State.report_rejoin (s : State) (c : Condition) (b : Bool) :
    (s.report c b).nsc.rejoin = if (s.report c b).nsc.node = s.nsc.node then s.nsc.rejoin else none := by
  by_cases h : s.nsc.present.has c = b
  · rw [State.report_same h]
    exact (if_pos rfl).symm
  · cases b
    · obtain ⟨x, hx⟩ := State.report_gone (Bool.not_eq_false _ ▸ h)
      rw [hx]
      exact (if_pos rfl).symm
    · rw [State.report_new (Bool.not_eq_true _ ▸ h)]
      exact (s.setNsc (s.nsc.putCondition c true)).onPresent_rejoin c

/-- A report leaves the join count too. -/
theorem State.report_keeps (s : State) (c : Condition) (b : Bool) : s.report c b = { s with
    nsc := { s.nsc with
      node := (s.report c b).nsc.node
      flt := (s.report c b).nsc.flt
      present := (s.report c b).nsc.present
      latches := (s.report c b).nsc.latches
      clearRun := (s.report c b).nsc.clearRun
      rejoin := (s.report c b).nsc.rejoin
      dormantDwell := (s.report c b).nsc.dormantDwell }
    bi := (s.report c b).bi
    handed := (s.report c b).handed } := by
  obtain ⟨_, _, hjoin, _⟩ := s.report_passage c b
  have h := s.report_eq c b
  rw [hjoin] at h
  rw [State.report_bi]
  exact h

/-- Only a degrading condition touches the clear run, in a running or dormant node. -/
theorem State.onPresent_clearRun {s : State} {c : Condition}
    (h : isDegrading c = false ∨ ¬(s.nsc.node = .active ∨ s.nsc.node = .degraded ∨ s.nsc.node = .dormant)) :
    (s.onPresent c).nsc.clearRun = s.nsc.clearRun := by
  by_cases hs : isSerious c = true ∧ (s.nsc.node = .active ∨ s.nsc.node = .degraded ∨ s.nsc.node = .dormant)
  · rw [State.onPresent_serious hs.1 hs.2, State.leaveRunning_eq]
  by_cases hl : s.nsc.node = .listen ∧ (c = .overlean ∨ c = .haltTaken)
  · rw [State.onPresent_listen hl.2 hl.1, State.leaveRunning_eq]
  by_cases hb : s.nsc.node = .start ∧ c = .configBad
  · rw [hb.2, State.onPresent_configBad hb.1]
    rfl
  · refine congrArg (·.nsc.clearRun) (State.onPresent_rest (fun ho => ?_) hl hb)
    obtain ⟨hout, hc⟩ := ho
    refine hc.elim (fun hser => hs ⟨hser, hout⟩) fun hdeg => ?_
    exact h.elim (fun hf => Bool.false_ne_true (hf.symm.trans hdeg)) fun hn => hn hout

/-! ## The timers after a report -/

/-- The dormant dwell after a report and its evaluation. -/
theorem State.report_dormantRuns {s v : State} (hv : v.nsc = s.nsc) (c : Condition) (b : Bool) (x : Nat) (st : SpeedStatus) :
    dormantRuns s ((v.report c b).evalDormant s.nsc.node x st) x st := by
  obtain ⟨hdwell, _, _, hne⟩ := v.report_passage c b
  refine State.evalDormant_runs s _ x st (hdwell.trans ?_)
  rw [hv] at hne ⊢
  by_cases h : (v.report c b).nsc.node = s.nsc.node
  · rw [if_pos h, if_pos (.inl h)]
  · rw [if_neg h, if_neg (not_or.2 ⟨h, (hne h).1⟩)]

/-- The rejoin timer after a report and its evaluation, the dwell evaluated in between. -/
theorem State.report_rejoinRuns {s v : State} (hv : v.nsc = s.nsc) (c : Condition) (b : Bool) (x : Nat) (st : SpeedStatus) :
    rejoinRuns s ((v.report c b).evalDormant s.nsc.node x st).evalRejoin := by
  refine State.evalRejoin_runs s _ ?_
  have h := v.report_rejoin c b
  rw [hv] at h
  rw [State.evalDormant_eq]
  exact h

/-! ## CONDITION_REPORT -/

/-- What becomes of the bus interface: a new OVERLEAN fills the HALT slot (R24). -/
def State.haltFilled (s : State) (c : Condition) (b : Bool) : Bi :=
  if c = .overlean ∧ b = true ∧ s.nsc.present.has .overlean = false then
    (s.fill .halt [1, BitVec.ofNat 8 s.cl.ownAddr.toNat]).bi
  else s.bi

theorem State.haltFilled_of_ne (s : State) {c : Condition} (b : Bool) (h : c ≠ .overlean) : s.haltFilled c b = s.bi :=
  if_neg fun hf => h hf.1

theorem State.haltFilled_same {s : State} {c : Condition} {b : Bool} (h : s.nsc.present.has c = b) : s.haltFilled c b = s.bi := by
  refine if_neg ?_
  rintro ⟨rfl, rfl, hp⟩
  exact Bool.false_ne_true (hp.symm.trans h)

theorem State.haltFilled_overlean {s : State} (h : s.nsc.present.has .overlean = false) (hon : s.bi.tx ≠ .off) :
    s.haltFilled .overlean true = { s.bi with
      slots := { s.bi.slots with halt := some ⟨[1, BitVec.ofNat 8 s.cl.ownAddr.toNat], 0⟩ }
      tx := if s.bi.tx = .idle then .waitGap else s.bi.tx } :=
  (if_pos ⟨rfl, rfl, h⟩).trans (s.fill_bi .halt _ hon)

/-- A fill does not look at the hand-offs. -/
theorem State.taken_fill (s : State) (i : Instr) (k : FrameKind) (p : List Byte) :
    (s.taken i).fill k p = { s.taken i with bi := (s.fill k p).bi } := by
  by_cases h : s.bi.tx = .off
  · rw [show s.fill k p = s from if_pos h, show (s.taken i).fill k p = _ from if_pos h]
    rfl
  · rw [show s.fill k p = _ from if_neg h, show (s.taken i).fill k p = _ from if_neg h]
    rfl

theorem exec_conditionReport (s : State) (c : Condition) (b : Bool) : exec (.conditionReport c b) s =
    .next (((({ s with bi := s.haltFilled c b, handed := s.handed.erase (.conditionReport c b) } : State).report c b).evalDormant
      s.nsc.node s.pvu.speed s.pvu.speedStatus).evalRejoin) := by
  let u := s.taken (.conditionReport c b)
  have hfill : (if c = .overlean ∧ b = true ∧ u.nsc.present.has .overlean = false then
      u.fill .halt [1, BitVec.ofNat 8 u.cl.ownAddr.toNat] else u) = { u with bi := s.haltFilled c b } := by
    unfold State.haltFilled
    by_cases h : c = .overlean ∧ b = true ∧ s.nsc.present.has .overlean = false
    · rw [if_pos h, if_pos (show c = .overlean ∧ b = true ∧ u.nsc.present.has .overlean = false from h)]
      exact s.taken_fill _ .halt _
    · rw [if_neg h, if_neg (show ¬(c = .overlean ∧ b = true ∧ u.nsc.present.has .overlean = false) from h)]
      rfl
  show Host.Outcome.next ((State.evalDormant (State.report (ite _ _ _) c b) _ (ite _ _ _ : State).pvu.speed
    (ite _ _ _ : State).pvu.speedStatus).evalRejoin) = _
  rw [hfill]
  rfl

theorem not_serious_of_degrading {c : Condition} (h : isDegrading c = true) : isSerious c = false := by
  revert h
  cases c <;> decide

/-- What a condition newly present does to the node state, the fault line and the clear run. -/
theorem State.report_acts {s : State} {c : Condition} (hp : s.nsc.present.has c = false) :
    let t := s.report c true
    let out := s.nsc.node = .active ∨ s.nsc.node = .degraded ∨ s.nsc.node = .dormant
    (isSerious c = true → out → t.nsc.node = s.away c ∧ t.nsc.flt = true) ∧
    (isSerious c = true → s.nsc.node = .listen → c = .overlean ∨ c = .haltTaken → t.nsc.node = s.away c ∧ t.nsc.flt = true) ∧
    (isDegrading c = true → out → t.nsc.node = .degraded ∧ t.nsc.clearRun = 0) ∧
    (isDegrading c = false ∨ ¬out → t.nsc.clearRun = s.nsc.clearRun) ∧
    (c = .configBad → s.nsc.node = .start → t.nsc.node = .halted ∧ t.nsc.flt = true) ∧
    (¬(out ∧ (isSerious c = true ∨ isDegrading c = true)) → ¬(s.nsc.node = .listen ∧ (c = .overlean ∨ c = .haltTaken)) →
      ¬(s.nsc.node = .start ∧ c = .configBad) → t.nsc.node = s.nsc.node ∧ t.nsc.flt = s.nsc.flt) := by
  intro t out
  let v : State := s.setNsc (s.nsc.putCondition c true)
  have ht : t = v.onPresent c := State.report_new hp
  rw [ht]
  refine ⟨fun hs ho => ?_, fun _ hl hc => ?_, fun hd ho => ?_, fun h => State.onPresent_clearRun (s := v) h, fun hc hn => ?_,
    fun h1 h2 h3 => ?_⟩
  · rw [State.onPresent_serious (s := v) hs ho, State.leaveRunning_eq]
    exact ⟨rfl, rfl⟩
  · rw [State.onPresent_listen (s := v) hc hl, State.leaveRunning_eq]
    exact ⟨rfl, rfl⟩
  · have hs : isSerious c = false := not_serious_of_degrading hd
    have hmove := State.onPresent_degrading (s := v) hs hd ho
    by_cases hn : v.nsc.node = .degraded
    · rw [hmove.trans (if_pos hn)]
      exact ⟨hn, rfl⟩
    · rw [hmove.trans (if_neg hn)]
      exact ⟨rfl, rfl⟩
  · rw [hc, State.onPresent_configBad (s := v) hn]
    exact ⟨rfl, rfl⟩
  · rw [State.onPresent_rest (s := v) h1 h2 h3]
    exact ⟨rfl, rfl⟩

/-- The classes of R139. -/
theorem condition_classes (c : Condition) :
    (isSerious c = true ↔ c ∈ [Condition.overlean, .haltTaken, .sensorFailed, .speedLost, .voteOutlier, .bridgeFault]) ∧
    (isDegrading c = true ↔ c ∈ [Condition.disagree, .partnerAbsent, .inputHeld]) ∧
    (isLatched c = true ↔ c ∈ [Condition.overlean, .haltTaken, .sensorFailed, .brakeStuck, .voteOutlier, .bridgeFault,
      .linkConflict, .queueOverrun]) ∧
    (isEvent c = true ↔ c ∈ [Condition.haltTaken, .linkConflict, .queueOverrun]) := by
  cases c <;> decide

/-- Settles O40: a report changes its condition alone, acts by its class, and leaves both timers as R149 and R150 say. -/
theorem conditionReportActsByClass : Obligations.ConditionReportActsByClass := by
  refine ⟨fun s c b => ?_, condition_classes⟩
  let v : State := { s with bi := s.haltFilled c b, handed := s.handed.erase (.conditionReport c b) }
  let r : State := v.report c b
  let t : State := (r.evalDormant s.nsc.node s.pvu.speed s.pvu.speedStatus).evalRejoin
  have hdormant : dormantRuns s t s.pvu.speed s.pvu.speedStatus := State.report_dormantRuns (v := v) rfl c b _ _
  have hrejoin : rejoinRuns s t := State.report_rejoinRuns (v := v) rfl c b _ _
  obtain ⟨d, ρ, ht⟩ : ∃ d ρ, t = { r with nsc := { r.nsc with dormantDwell := d, rejoin := ρ } } := by
    refine ⟨t.nsc.dormantDwell, t.nsc.rejoin, ?_⟩
    show t = _
    rw [show t = _ from State.evalRejoin_eq _, State.evalDormant_eq]
  have hexec : exec (.conditionReport c b) s = .next t := exec_conditionReport s c b
  obtain ⟨_, hhanded, _, _⟩ := v.report_passage c b
  have hbi : r.bi = s.haltFilled c b := State.report_bi v c b
  have hpresent (d : Condition) : r.nsc.present.has d = _ := v.report_present c d b
  have hlatches (d : Condition) : r.nsc.latches.has d = _ := v.report_latches c d b
  rw [ht] at hexec hdormant hrejoin
  refine ⟨_, hexec, fun d hd => ⟨(hpresent d).trans (if_neg hd), ?_⟩, fun h => ?_, fun hb h => ?_, fun hb h => ?_, hhanded,
    hdormant, hrejoin, ?_⟩
  · exact (hlatches d).trans (by rw [decide_eq_false hd]; simp; rfl)
  · have hr : r = v := State.report_same (s := v) h
    rw [hr]
    exact ⟨rfl, State.haltFilled_same h⟩
  · subst hb
    obtain ⟨x, hx⟩ := State.report_gone (s := v) h
    have hr : r = _ := hx
    refine ⟨by rw [hr]; rfl, ?_, ?_, by rw [hr]; rfl, ?_⟩
    · exact hbi.trans (if_neg fun hf => Bool.false_ne_true hf.2.1)
    · rw [hr]; rfl
    · exact (hpresent c).trans ((if_pos rfl).trans (by rw [show v.nsc.present.has c = true from h]; rfl))
  · subst hb
    obtain ⟨hser, hlis, hdeg, hclr, hcfg, hrest⟩ := State.report_acts (s := v) h
    refine ⟨(hpresent c).trans ((if_pos rfl).trans rfl), ?_, hser, hlis, hdeg, hclr, hcfg, hrest, fun hc hon => ?_,
      fun hc => hbi.trans (s.haltFilled_of_ne true hc)⟩
    · refine (hlatches c).trans ?_
      rw [show v.nsc.present.has c = false from h, decide_eq_true rfl, Bool.or_comm]
      simp
      rfl
    · subst hc
      exact hbi.trans (State.haltFilled_overlean h hon)
  · exact congrArg (fun q : State => { q with nsc := { q.nsc with dormantDwell := d, rejoin := ρ } }) (v.report_keeps c b)

end Sys2Proof.Machine
end

section
/-! SUPPORT. The conditions the NSC finds itself, at the sweep, the speed, the view and the bridge fault (R139 to R141, R152). -/

namespace Sys2Proof.Machine

/-! ## One passage at most (R142) -/

/-- What an event does to the node state where at most one passage is made: the hand-offs of that passage and of no other, the
fault line, the timers stopped by it, and the blocks and fields that stay. -/
def passes (s t : State) : Prop :=
  t.handed = s.handed ++ (if t.nsc.node = s.nsc.node then [] else s.nodeNotices s.nsc.node t.nsc.node) ∧
  t.nsc.flt = (if t.nsc.node = s.nsc.node then s.nsc.flt else t.nsc.node.faulted) ∧
  t.nsc.rejoin = (if t.nsc.node = s.nsc.node then s.nsc.rejoin else none) ∧
  t.nsc.dormantDwell = (if t.nsc.node = s.nsc.node ∨ t.nsc.node = .active then s.nsc.dormantDwell else none) ∧
  (t.nsc.node = s.nsc.node ∨ t.nsc.node ≠ .active → t.nsc.joinCount = s.nsc.joinCount) ∧
  (t.nsc.node = .active → t.nsc.node = s.nsc.node ∨ s.nsc.node = .dormant) ∧
  t = { s with nsc := { s.nsc with node := t.nsc.node, flt := t.nsc.flt, present := t.nsc.present, latches := t.nsc.latches,
                                   joinCount := t.nsc.joinCount, clearRun := t.nsc.clearRun,
                                   dormantDwell := t.nsc.dormantDwell, rejoin := t.nsc.rejoin }
               handed := t.handed }

theorem passes.refl (s : State) : passes s s :=
  ⟨by rw [if_pos rfl, List.append_nil], (if_pos rfl).symm, (if_pos rfl).symm, (if_pos (.inl rfl)).symm, fun _ => rfl,
    fun _ => .inl rfl, rfl⟩

/-- Two events in a row of which at most one passes. -/
theorem passes.trans {s t w : State} (h1 : passes s t) (h2 : passes t w)
    (hone : t.nsc.node = s.nsc.node ∨ w.nsc.node = t.nsc.node) : passes s w := by
  obtain ⟨hh1, hf1, hr1, hd1, hj1, ha1, he1⟩ := h1
  obtain ⟨hh2, hf2, hr2, hd2, hj2, ha2, he2⟩ := h2
  have hnotices (old new : NodeState) : t.nodeNotices old new = s.nodeNotices old new :=
    congrArg (·.nodeNotices old new) he1
  have hkeep : w = { s with
      nsc := { s.nsc with
        node := w.nsc.node
        flt := w.nsc.flt
        present := w.nsc.present
        latches := w.nsc.latches
        joinCount := w.nsc.joinCount
        clearRun := w.nsc.clearRun
        dormantDwell := w.nsc.dormantDwell
        rejoin := w.nsc.rejoin }
      handed := w.handed } := by
    rw [he1] at he2
    exact he2
  rcases hone with h | h
  · rw [if_pos h, List.append_nil] at hh1
    rw [if_pos h] at hf1 hr1
    rw [if_pos (.inl h)] at hd1
    have hj1 := hj1 (.inl h)
    refine ⟨?_, ?_, ?_, ?_, fun hw => ?_, fun hw => ?_, hkeep⟩
    · rw [hh2, hh1, h, hnotices]
    · rw [hf2, hf1, h]
    · rw [hr2, hr1, h]
    · rw [hd2, hd1, h]
    · exact (hj2 (h ▸ hw)).trans hj1
    · exact h ▸ ha2 hw
  · rw [if_pos h, List.append_nil] at hh2
    rw [if_pos h] at hf2 hr2
    rw [if_pos (.inl h)] at hd2
    have hj2 := hj2 (.inl h)
    refine ⟨?_, ?_, ?_, ?_, fun hw => ?_, fun hw => ?_, hkeep⟩
    · rw [hh2, hh1, h]
    · rw [hf2, hf1, h]
    · rw [hr2, hr1, h]
    · rw [hd2, hd1, h]
    · exact hj2.trans (hj1 (h ▸ hw))
    · rw [h] at hw ⊢
      exact ha1 hw

/-- A condition that a report can clear, found present or absent. -/
theorem State.report_passes {s : State} {c : Condition} (b : Bool) (hl : s.nsc.node.live = true) (hc : c ≠ .overlean)
    (hd : staysPresent c = false) : passes s (s.report c b) := by
  obtain ⟨hdwell, hhanded, hjoin, hne⟩ := s.report_passage c b
  obtain ⟨_, _, _, _, _, _, _, _, _, hf1, hf2, hrejoin, _, _⟩ := s.report_spec c b hl hc hd
  refine ⟨hhanded, ?_, hrejoin, ?_, fun _ => hjoin, fun ha => ?_, ?_⟩
  · split
    next h => exact hf2 h
    next h => exact (hf1 h).2
  · rw [hdwell]
    by_cases h : (s.report c b).nsc.node = s.nsc.node
    · rw [if_pos h, if_pos (.inl h)]
    · rw [if_neg h, if_neg (not_or.2 ⟨h, (hne h).1⟩)]
  · by_cases h : (s.report c b).nsc.node = s.nsc.node
    · exact .inl h
    · exact absurd ha (hne h).1
  · exact s.report_eq c b

theorem State.wakeWhen_passes (s : State) (b : Bool) : passes s (s.wakeWhen b) := by
  by_cases h : s.nsc.node = .dormant ∧ b = true
  · have hne : ¬NodeState.active = s.nsc.node := by rw [h.1]; exact NodeState.noConfusion
    rw [State.wakeWhen_dormant h.1 h.2, State.enterNode_active]
    exact ⟨congrArg (s.handed ++ ·) (if_neg hne).symm, (if_neg hne).symm, (if_neg hne).symm, (if_pos (.inr rfl)).symm,
      fun hx => hx.elim (fun he => absurd he hne) fun hx => absurd rfl hx, fun _ => .inr h.1, rfl⟩
  · rw [show s.wakeWhen b = s from if_neg h]
    exact passes.refl s

theorem State.enterNode_free_passes {s : State} (h : s.nsc.node = .clamped) : passes s (s.enterNode .free) := by
  have hne : ¬NodeState.free = s.nsc.node := by rw [h]; exact NodeState.noConfusion
  exact ⟨congrArg (s.handed ++ ·) (if_neg hne).symm, (if_neg hne).symm, (if_neg hne).symm,
    (if_neg (not_or.2 ⟨hne, NodeState.noConfusion⟩)).symm, fun _ => rfl, fun hx => NodeState.noConfusion hx, rfl⟩

/-! ## A serious condition, then INPUT_HELD (log entry 38) -/

/-- A serious condition found first and INPUT_HELD after it. -/
theorem State.reportTwo_spec {u : State} {c : Condition} {b1 b2 : Bool} {P1 P2 : Prop} (hb1 : b1 = true ↔ P1)
    (hb2 : b2 = true ↔ P2) (hl : u.nsc.node.live = true) (hs : isSerious c = true)
    (hc : c ≠ .overlean) (hv : c ≠ .voteOutlier) (hd : staysPresent c = false) :
    let w := (u.report c b1).report .inputHeld b2
    let new1 := P1 ∧ u.nsc.present.has c = false
    let new2 := P2 ∧ u.nsc.present.has .inputHeld = false
    let out := u.nsc.node = .active ∨ u.nsc.node = .degraded ∨ u.nsc.node = .dormant
    (w.nsc.present.has c = true ↔ P1) ∧ (w.nsc.present.has .inputHeld = true ↔ P2) ∧
    (∀ d, d ≠ c → d ≠ .inputHeld → w.nsc.present.has d = u.nsc.present.has d) ∧
    (isLatched c = false ∨ ¬new1 → w.nsc.latches = u.nsc.latches) ∧
    (isLatched c = true → new1 → w.nsc.latches.has c = true) ∧
    (∀ d, d ≠ c → w.nsc.latches.has d = u.nsc.latches.has d) ∧
    (new1 → out → w.nsc.node = (if u.role = .steer ∨ u.prm.vFree ≤ u.nsc.speed.value then .free else .clamped) ∧
      w.nsc.clearRun = u.nsc.clearRun) ∧
    (¬new1 → new2 → out → w.nsc.node = .degraded ∧ w.nsc.clearRun = 0) ∧
    (¬new1 ∧ ¬new2 ∨ ¬out → w.nsc.node = u.nsc.node ∧ w.nsc.clearRun = u.nsc.clearRun) ∧
    (w.nsc.node = u.nsc.node ∨ w.nsc.node = .degraded ∨
      w.nsc.node = if u.role = .steer ∨ u.prm.vFree ≤ u.nsc.speed.value then .free else .clamped) ∧
    passes u w := by
  obtain rfl : (b1 = true) = P1 := propext hb1
  obtain rfl : (b2 = true) = P2 := propext hb2
  intro w new1 new2 out
  have hci : c ≠ .inputHeld := by rintro rfl; exact Bool.false_ne_true hs
  obtain ⟨hp1, hpo1, hl1, hln1, hlo1, haway1, _, hstay1, _, _, _, _, hlive1, _⟩ := u.report_spec c b1 hl hc hd
  obtain ⟨hp2, hpo2, hl2, _, _, _, hdeg2, hstay2, _⟩ :=
    (u.report c b1).report_spec .inputHeld b2 hlive1 Condition.noConfusion rfl
  have hlatch : w.nsc.latches = (u.report c b1).nsc.latches := hl2 (.inl rfl)
  have hheld : (u.report c b1).nsc.present.has .inputHeld = u.nsc.present.has .inputHeld := hpo1 _ hci.symm
  have hpass1 : passes u (u.report c b1) := State.report_passes b1 hl hc hd
  have hpass2 : passes (u.report c b1) w := State.report_passes b2 hlive1 Condition.noConfusion rfl
  have hgone (h1 : new1) (ho : out) :
      w.nsc.node = (u.report c b1).nsc.node ∧ w.nsc.clearRun = u.nsc.clearRun ∧
        w.nsc.node = if u.role = .steer ∨ u.prm.vFree ≤ u.nsc.speed.value then .free else .clamped := by
    obtain ⟨hclear, hnode⟩ := haway1 h1 hs ho
    rw [if_congr (or_congr_right (or_iff_right hv)) rfl rfl] at hnode
    have hnot : ¬((u.report c b1).nsc.node = .active ∨ (u.report c b1).nsc.node = .degraded ∨
        (u.report c b1).nsc.node = .dormant) := by
      rw [hnode]
      split <;> decide
    obtain ⟨hclear2, hnode2⟩ := hstay2 (.inr hnot)
    exact ⟨hnode2, hclear2.trans hclear, hnode2.trans hnode⟩
  have hone : (u.report c b1).nsc.node = u.nsc.node ∨ w.nsc.node = (u.report c b1).nsc.node := by
    by_cases h : new1 ∧ out
    · exact .inr (hgone h.1 h.2).1
    · exact .inl (hstay1 (not_and_or.1 h)).2
  have hdeg (h1 : ¬new1) (h2 : new2) (ho : out) : w.nsc.node = .degraded ∧ w.nsc.clearRun = 0 := by
    obtain ⟨_, hnode⟩ := hstay1 (.inl h1)
    obtain ⟨hclear, hdegraded⟩ := hdeg2 ⟨h2.1, hheld.trans h2.2⟩ rfl rfl (by rw [hnode]; exact ho)
    exact ⟨hdegraded, hclear⟩
  have hstay (h : ¬new1 ∧ ¬new2 ∨ ¬out) : w.nsc.node = u.nsc.node ∧ w.nsc.clearRun = u.nsc.clearRun := by
    obtain ⟨hclear1, hnode1⟩ := hstay1 (h.imp_left And.left)
    have h2 : ¬(b2 = true ∧ (u.report c b1).nsc.present.has .inputHeld = false) ∨ ¬((u.report c b1).nsc.node = .active ∨
        (u.report c b1).nsc.node = .degraded ∨ (u.report c b1).nsc.node = .dormant) := by
      rw [hheld, hnode1]
      exact h.imp_left And.right
    obtain ⟨hclear2, hnode2⟩ := hstay2 h2
    exact ⟨hnode2.trans hnode1, hclear2.trans hclear1⟩
  refine ⟨iff_of_eq (congrArg (· = true) ((hpo2 c hci).trans hp1)), iff_of_eq (congrArg (· = true) hp2), fun d hdc hdi => (hpo2 d hdi).trans (hpo1 d hdc), fun h => hlatch.trans (hl1 h),
    fun h1 h2 => hlatch ▸ hln1 h1 h2, fun d hdc => hlatch ▸ hlo1 d hdc, fun h1 ho => ?_, hdeg, hstay, ?_,
    hpass1.trans hpass2 hone⟩
  · obtain ⟨_, hclear, hnode⟩ := hgone h1 ho
    exact ⟨hnode, hclear⟩
  · by_cases ho : out
    · by_cases h1 : new1
      · obtain ⟨_, _, hnode⟩ := hgone h1 ho
        exact .inr (.inr hnode)
      · by_cases h2 : new2
        · exact .inr (.inl (hdeg h1 h2 ho).1)
        · exact .inl (hstay (.inl ⟨h1, h2⟩)).1
    · exact .inl (hstay (.inr ho)).1

/-! ## The sources -/

/-- INPUT_HELD's cause (R139). -/
theorem inputHeld_iff (a b : RecordState) (st : SpeedStatus) (view : ViewStatus) : inputHeld a b st view = true ↔
    a = .held ∨ b = .held ∨ st = .held ∨ st = .single ∨ view = .held ∨ view = .ramping := by
  simp [inputHeld, or_assoc]

theorem State.report_sweepWakes (s : State) (c : Condition) (b : Bool) : (s.report c b).sweepWakes = s.sweepWakes := by
  rw [State.report_eq]
  rfl

/-- The wake causes of a sweep notice (R152). -/
theorem State.sweepWakes_iff (s : State) : s.sweepWakes = true ↔
    (∃ c ∈ s.candidates, ∃ v, c.value = some v ∧ c.fresh.heard = true ∧ s.prm.vStand < v) ∨
    (s.role = .steer ∧ ∃ tau, s.mu.records.torque.lastGood = some tau ∧ s.prm.wake < tau.natAbs) ∨
    (s.role ≠ .steer ∧ ∃ x y, s.mu.records.shaft.lastGood = some x ∧ s.nsc.entryLean = some y ∧ 100 < (x - y).natAbs) := by
  rw [← State.movingSeen_iff, ← State.leanMoved_iff, ← State.torqueWakes_iff, State.sweepWakes]
  by_cases h : s.role = .steer <;> simp [h]

/-- The two timers evaluated change the two timers. -/
theorem State.timers_eq (y : State) (before : NodeState) (v : Nat) (st : SpeedStatus) : ∃ d ρ,
    (y.evalDormant before v st).evalRejoin = { y with nsc := { y.nsc with dormantDwell := d, rejoin := ρ } } := by
  refine ⟨(y.evalDormant before v st).evalRejoin.nsc.dormantDwell, (y.evalDormant before v st).evalRejoin.nsc.rejoin, ?_⟩
  rw [State.evalDormant_eq]
  rfl

/-- The last step of an event of a source: the rejoin timer. -/
theorem passes.evalRejoin {s t : State} (h : passes s t) : rejoinRuns s t.evalRejoin := by
  obtain ⟨_, _, hrejoin, _⟩ := h
  exact s.evalRejoin_runs t hrejoin

/-- Without a wake nothing more is done at a sweep notice, and a wake leaves the condition sets. -/
theorem State.wakeWhen_sets (s : State) (b : Bool) :
    (s.wakeWhen b).nsc.present = s.nsc.present ∧ (s.wakeWhen b).nsc.latches = s.nsc.latches := by
  unfold State.wakeWhen
  split <;> exact ⟨rfl, rfl⟩

theorem not_running_of_away {n : NodeState} (h : n = .listen ∨ n = .free ∨ n = .clamped) :
    ¬(n = .active ∨ n = .degraded ∨ n = .dormant) := by
  rcases h with rfl | rfl | rfl <;> decide

/-- At v_free, the limit, a speed change takes CLAMPED to FREE (R146). -/
def State.freedAt (w : State) (limit v : Nat) : State := if w.nsc.node = .clamped ∧ limit ≤ v then w.enterNode .free else w

theorem State.freedAt_stays {w : State} {limit v : Nat} (h : ¬(w.nsc.node = .clamped ∧ limit ≤ v)) : w.freedAt limit v = w :=
  if_neg h

theorem State.freedAt_passes (w : State) (limit v : Nat) : passes w (w.freedAt limit v) := by
  unfold State.freedAt
  split
  next h => exact State.enterNode_free_passes h.1
  next => exact passes.refl w

theorem State.freedAt_sets (w : State) (limit v : Nat) : (w.freedAt limit v).nsc.present = w.nsc.present ∧
    (w.freedAt limit v).nsc.latches = w.nsc.latches ∧ (w.freedAt limit v).nsc.clearRun = w.nsc.clearRun := by
  unfold State.freedAt
  split <;> exact ⟨rfl, rfl, rfl⟩

theorem State.freedAt_not_active {w : State} (h : w.nsc.node ≠ .active) (limit v : Nat) :
    (w.freedAt limit v).nsc.node ≠ .active := by
  unfold State.freedAt
  split
  · exact NodeState.noConfusion
  · exact h

theorem State.freedAt_clamped {w : State} (h : w.nsc.node = .clamped) (limit v : Nat) :
    (w.freedAt limit v).nsc.node = if limit ≤ v then .free else .clamped := by
  unfold State.freedAt
  by_cases hv : limit ≤ v
  · rw [if_pos ⟨h, hv⟩, if_pos hv]
    rfl
  · rw [if_neg fun hf => hv hf.2, if_neg hv, h]

/-- Settles O43: each source sets its conditions, and the node state follows them by one passage at most. -/
theorem sourcesSetTheirConditions : Obligations.SourcesSetTheirConditions := by
  refine ⟨fun s n hlive => ?_, fun s v st hlive => ?_, fun s st hlive => ?_, fun s low hlive htilt => ?_, fun s hdead => ?_,
    fun s low hno => ?_⟩
  · let u := s.taken (.sweepNoticeNsc n)
    let b1 := n.first == .failed || n.second == .failed
    let b2 := inputHeld n.first n.second s.nsc.speed.status s.pvu.viewStatus
    let w := (u.report .sensorFailed b1).report .inputHeld b2
    let x := w.wakeWhen w.sweepWakes
    have hexec : exec (.sweepNoticeNsc n) s = .next x.evalRejoin := by
      exact congrArg Host.Outcome.next (if_pos hlive)
    have hb1 : b1 = true ↔ n.first = .failed ∨ n.second = .failed := by simp [b1]
    have hwakes := u.sweepWakes_iff
    rw [← u.report_sweepWakes .sensorFailed b1, ← (u.report .sensorFailed b1).report_sweepWakes .inputHeld b2] at hwakes
    obtain ⟨hp1, hp2, hpo, hl, hln, hlo, haway, hdeg, hstay, hwhere, hpass⟩ := State.reportTwo_spec (u := u) (c := .sensorFailed) hb1
      (inputHeld_iff n.first n.second s.nsc.speed.status s.pvu.viewStatus) hlive rfl Condition.noConfusion Condition.noConfusion rfl
    obtain ⟨hxp, hxl⟩ := w.wakeWhen_sets w.sweepWakes
    have hstill (h : w.nsc.node ≠ .dormant ∨ w.sweepWakes = false) : x = w := State.wakeWhen_stays h
    have hone : w.nsc.node = u.nsc.node ∨ x.nsc.node = w.nsc.node := by
      refine hwhere.imp_right fun h => congrArg (·.nsc.node) (hstill (.inl ?_))
      rcases h with h | h <;> rw [h]
      · exact NodeState.noConfusion
      · split <;> exact NodeState.noConfusion
    have hall := hpass.trans (w.wakeWhen_passes _) hone
    have hruns : rejoinRuns s x.evalRejoin := hall.evalRejoin
    obtain ⟨hhanded, hflt, _, hdwell, hjoin, hact, hkeep⟩ := hall
    have hwake (hn : ¬_) (hh : ¬_) (hd : s.nsc.node = .dormant) (hw : _) : x = w.enterNode .active :=
      State.wakeWhen_dormant ((hstay (.inl ⟨hn, hh⟩)).1.trans hd) (hwakes.2 hw)
    refine ⟨_, hexec, ⟨?_, ?_, fun d h1 h2 => ?_, fun h => ?_, fun h => hxl.trans (hl (.inr h)), fun d h => ?_, fun hn ho => ?_,
      fun hn hh ho => ?_, fun hn hh hd hw => ?_, fun h => hjoin ?_, fun h => hjoin (.inr h), fun hn hh h => ?_, fun h => ?_⟩,
      hhanded, fun h => hflt.trans (if_neg h), fun h => hflt.trans (if_pos h), hdwell, hruns, ?_⟩
    · rw [show x.evalRejoin.nsc.present = _ from hxp]
      exact hp1
    · rw [show x.evalRejoin.nsc.present = _ from hxp]
      exact hp2
    · rw [show x.evalRejoin.nsc.present = _ from hxp]
      exact hpo d h1 h2
    · rw [show x.evalRejoin.nsc.latches = _ from hxl]
      exact hln rfl h
    · rw [show x.evalRejoin.nsc.latches = _ from hxl]
      exact hlo d h
    · have hw := haway hn ho
      have hx : x = w := hstill (.inl (by rw [hw.1]; split <;> exact NodeState.noConfusion))
      rw [hx]
      exact hw
    · have hw := hdeg hn hh ho
      have hx : x = w := hstill (.inl (by rw [hw.1]; exact NodeState.noConfusion))
      rw [hx]
      exact hw
    · rw [hwake hn hh hd hw]
      exact ⟨rfl, rfl, rfl⟩
    · by_cases ha : x.nsc.node = .active
      · exact (hact ha).imp_right fun hd => absurd hd h
      · exact .inr ha
    · have hw := hstay (.inl ⟨hn, hh⟩)
      have hx : x = w := hstill (h.imp (fun hd => by rw [hw.1]; exact hd) fun hf => Bool.eq_false_iff.2 fun ht => hf (hwakes.1 ht))
      rw [hx]
      exact hw
    · have hw := hstay (.inr (not_running_of_away h))
      have hx : x = w := hstill (.inl (by rw [hw.1]; rcases h with h | h | h <;> rw [show u.nsc.node = _ from h] <;> exact NodeState.noConfusion))
      rw [hx]
      exact hw
    · exact congrArg State.evalRejoin hkeep
  · let u := (s.taken (.speedStatusChangeNsc v st)).setNscSpeed v st
    let w := (u.report .speedLost (st == .lost)).report .inputHeld (inputHeld s.channel1.state s.channel2.state st s.pvu.viewStatus)
    let y := w.freedAt s.prm.vFree v
    let x := y.evalDormant s.nsc.node v st
    have hexec : exec (.speedStatusChangeNsc v st) s = .next x.evalRejoin := congrArg Host.Outcome.next (if_pos hlive)
    obtain ⟨hp1, hp2, hpo, hl, _, _, haway, hdeg, hstay, hwhere, hpass⟩ := State.reportTwo_spec (u := u) (c := .speedLost)
      (b1 := st == .lost) beq_iff_eq (inputHeld_iff s.channel1.state s.channel2.state st s.pvu.viewStatus) hlive rfl
      Condition.noConfusion Condition.noConfusion rfl
    obtain ⟨hyp, hyl, hyc⟩ := w.freedAt_sets s.prm.vFree v
    have hstill (h : w.nsc.node ≠ .clamped ∨ ¬s.prm.vFree ≤ v) : y = w :=
      State.freedAt_stays fun hf => h.elim (fun hn => hn hf.1) fun hv => hv hf.2
    have hmoved (h : w.nsc.node = if s.role = .steer ∨ s.prm.vFree ≤ v then .free else .clamped) : y = w := by
      by_cases hv : s.prm.vFree ≤ v
      · rw [if_pos (.inr hv)] at h
        exact hstill (.inl (by rw [h]; exact NodeState.noConfusion))
      · exact hstill (.inr hv)
    have hone : w.nsc.node = u.nsc.node ∨ y.nsc.node = w.nsc.node := by
      refine hwhere.imp_right fun h => congrArg (·.nsc.node) (h.elim (fun hd => hstill (.inl ?_)) hmoved)
      rw [hd]
      exact NodeState.noConfusion
    obtain ⟨hhanded, hflt, hrejoin, hdwell, hjoin, hact, hkeep⟩ := hpass.trans (w.freedAt_passes s.prm.vFree v) hone
    have hdormant : dormantRuns s x.evalRejoin v st := State.evalDormant_runs s y v st hdwell
    have hruns : rejoinRuns s x.evalRejoin := by
      refine State.evalRejoin_runs s x ?_
      rw [show x = _ from State.evalDormant_eq _ _ _ _]
      exact hrejoin
    have hj : y.nsc.joinCount = s.nsc.joinCount := by
      refine hjoin (or_iff_not_imp_right.2 fun ha => ?_)
      have hw : w.nsc.node = .active := by
        by_contra hne
        exact ha (State.freedAt_not_active hne _ _)
      have hyw : y = w := hstill (.inl (by rw [hw]; exact NodeState.noConfusion))
      refine (congrArg (·.nsc.node) hyw).trans (hwhere.resolve_right ?_)
      rw [hw]
      split <;> decide
    rw [hj] at hkeep
    have hspeed : y.nsc.speed = ⟨v, st⟩ := congrArg (·.nsc.speed) hkeep
    obtain ⟨d, ρ, hx⟩ : ∃ d ρ, x.evalRejoin = { y with nsc := { y.nsc with dormantDwell := d, rejoin := ρ } } :=
      y.timers_eq s.nsc.node v st
    rw [hx] at hdormant hruns hexec
    have hnode (h : w.nsc.node = s.nsc.node ∧ w.nsc.clearRun = s.nsc.clearRun) (hne : s.nsc.node ≠ .clamped) :
        y.nsc.node = s.nsc.node ∧ y.nsc.clearRun = s.nsc.clearRun := by
      have hyw : y = w := hstill (.inl (by rw [h.1]; exact hne))
      rw [hyw]
      exact h
    refine ⟨_, hexec, hspeed, ⟨?_, ?_, fun d h1 h2 => ?_, hyl.trans (hl (.inl rfl)), fun hn ho => ?_,
      fun hn hh ho => ?_, fun hn hh ho => hnode (hstay (.inl ⟨hn, hh⟩)) ?_, fun h => ?_, fun h => ?_, fun h => ?_⟩, hdormant,
      hhanded, fun h => hflt.trans (if_neg h), fun h => hflt.trans (if_pos h), hruns, ?_⟩
    · show y.nsc.present.has _ = true ↔ _
      rw [show y.nsc.present = _ from hyp]
      exact hp1
    · show y.nsc.present.has _ = true ↔ _
      rw [show y.nsc.present = _ from hyp]
      exact hp2
    · show y.nsc.present.has _ = _
      rw [show y.nsc.present = _ from hyp]
      exact hpo d h1 h2
    · have hw := haway hn ho
      rw [hmoved hw.1]
      exact hw
    · have hw := hdeg hn hh ho
      rw [hstill (.inl (by rw [hw.1]; exact NodeState.noConfusion))]
      exact hw
    · rcases ho with ho | ho | ho <;> rw [ho] <;> exact NodeState.noConfusion
    · exact State.freedAt_clamped ((hstay (.inr (not_running_of_away (.inr (.inr h))))).1.trans h) _ _
    · have haway : s.nsc.node = .listen ∨ s.nsc.node = .free ∨ s.nsc.node = .clamped := h.imp_right .inl
      obtain ⟨hsame, _⟩ := hnode (hstay (.inr (not_running_of_away haway)))
        (by rcases h with h | h <;> rw [h] <;> exact NodeState.noConfusion)
      exact hsame
    · obtain ⟨_, hclear⟩ := hstay (.inr (not_running_of_away h))
      exact hyc.trans hclear
    · exact congrArg (fun q : State => q.setNsc { q.nsc with dormantDwell := d, rejoin := ρ, speed := y.nsc.speed }) hkeep
  · let u := s.taken (.viewChange st)
    let b := inputHeld s.channel1.state s.channel2.state s.nsc.speed.status st
    let w := u.report .inputHeld b
    have hexec : exec (.viewChange st) s = .next w.evalRejoin := congrArg Host.Outcome.next (if_pos hlive)
    have hb := inputHeld_iff s.channel1.state s.channel2.state s.nsc.speed.status st
    have hpass : passes u w := State.report_passes b hlive Condition.noConfusion rfl
    have hruns : rejoinRuns s w.evalRejoin := hpass.evalRejoin
    obtain ⟨hp, hpo, hl, _, _, _, hdeg, hstay, hhanded, _, _, _, _, hkeep⟩ :=
      u.report_spec .inputHeld b hlive Condition.noConfusion rfl
    obtain ⟨_, hflt, _, hdwell, _, _, _⟩ := hpass
    rw [hl (.inl rfl)] at hkeep
    refine ⟨_, hexec, ⟨(iff_of_eq (congrArg (· = true) hp)).trans hb, hpo, hl (.inl rfl), fun hn ho => ?_, fun h => ?_⟩, hhanded,
      fun h => hflt.trans (if_neg h), fun h => hflt.trans (if_pos h), hdwell, hruns,
      congrArg (fun q : State => q.setNsc { q.nsc with rejoin := w.evalRejoin.nsc.rejoin }) hkeep⟩
    · exact (hdeg ⟨hb.2 hn.1, hn.2⟩ rfl rfl ho).symm
    · exact (hstay (h.imp (fun hn hf => hn ⟨hb.1 hf.1, hf.2⟩) not_running_of_away)).symm
  · let u : State := { s with pins := { s.pins with bfltLow := low } }
    let w := u.report .bridgeFault low
    have hexec : exec (.bfltChange low) s = .next w.evalRejoin :=
      congrArg Host.Outcome.next (if_pos ((Bool.and_eq_true _ _).mpr ⟨htilt, hlive⟩))
    have hpass : passes u w := State.report_passes low hlive Condition.noConfusion rfl
    have hruns : rejoinRuns s w.evalRejoin := hpass.evalRejoin
    obtain ⟨hp, hpo, hl, hln, hlo, haway, _, hstay, hhanded, hflt, hflts, _, _, hkeep⟩ :=
      u.report_spec .bridgeFault low hlive Condition.noConfusion rfl
    obtain ⟨_, _, _, hdwell, _, _, _⟩ := hpass
    have hclear : w.nsc.clearRun = s.nsc.clearRun := by
      by_cases h : (low = true ∧ s.nsc.present.has .bridgeFault = false) ∧
          (s.nsc.node = .active ∨ s.nsc.node = .degraded ∨ s.nsc.node = .dormant)
      · exact (haway h.1 rfl h.2).1
      · exact (hstay (not_and_or.1 h)).1
    have hne : s.role ≠ .steer := by
      intro h
      rw [h] at htilt
      exact Bool.false_ne_true htilt
    have hlimit : (s.role = .steer ∨ Condition.bridgeFault = .voteOutlier ∨ s.prm.vFree ≤ s.nsc.speed.value) ↔
        s.prm.vFree ≤ s.nsc.speed.value := (or_iff_right hne).trans (or_iff_right Condition.noConfusion)
    have hnode (ho : _) (hn : _) : w.nsc.node = if s.prm.vFree ≤ s.nsc.speed.value then .free else .clamped :=
      (haway hn rfl ho).2.trans (if_congr hlimit rfl rfl)
    rw [hclear] at hkeep
    refine ⟨_, hexec, congrArg State.pins hkeep, ⟨hp, hpo, hln rfl, fun h => hl (.inr h), hlo, fun hn ho => hnode ho hn, fun h => ?_⟩,
      hhanded, fun h => ?_, hflts, hdwell, hruns, ?_⟩
    · exact (hstay (h.imp_right not_running_of_away)).2
    · by_cases hn : (low = true ∧ s.nsc.present.has .bridgeFault = false) ∧
          (s.nsc.node = .active ∨ s.nsc.node = .degraded ∨ s.nsc.node = .dormant)
      · refine (hflt h).2.trans ?_
        rw [show w.nsc.node = _ from hnode hn.2 hn.1]
        split <;> rfl
      · exact absurd (hstay (not_and_or.1 hn)).2 h
    · exact congrArg (fun q : State => { q with pins := w.pins, nsc := { q.nsc with rejoin := w.evalRejoin.nsc.rejoin } }) hkeep
  · have hno : ¬s.nsc.node.live = true := fun h => Bool.false_ne_true (hdead.symm.trans h)
    exact ⟨fun _ => congrArg Host.Outcome.next (if_neg hno), fun _ _ => congrArg Host.Outcome.next (if_neg hno),
      fun _ => congrArg Host.Outcome.next (if_neg hno)⟩
  · refine congrArg Host.Outcome.next (if_neg fun h => ?_)
    obtain ⟨htilt, hlive⟩ := (Bool.and_eq_true _ _).mp h
    exact hno.elim (fun hf => Bool.false_ne_true (hf.symm.trans hlive)) fun hf => Bool.false_ne_true (hf.symm.trans htilt)

end Sys2Proof.Machine
end

section
/-! SUPPORT. The service responder: the reply, and what a CLEAR does (R174 to R178). -/

namespace Sys2Proof.Machine

/-! ## The reply (R174) -/

/-- A reply with the transmitter on stands in the REPORT slot. -/
theorem State.reply_on {s : State} (h : s.bi.tx ≠ .off) (p : List Byte) : s.reply p = { s with
    bi := { s.bi with slots := { s.bi.slots with report := some ⟨p, 0⟩ }
                      tx := if s.bi.tx = .idle then .waitGap else s.bi.tx }
    free := s.free + 64 } := by
  rw [State.reply_eq, State.fill_bi s .report p h]
  rfl

theorem State.serves_iff {s : State} (hlive : s.nsc.node.live = true) : s.serves = !s.sr.restartPending := by
  rw [State.serves, hlive]
  rfl

/-! ## CLEAR (R176, R177) -/

theorem clearCommand_of_rest {action : Byte} (h1 : action ≠ 1) (h2 : action ≠ 2) (h : ServiceHead) :
    clearCommand action h = .clearUnknownAction action h := by
  unfold clearCommand
  split
  next ha => exact absurd (BitVec.eq_of_toNat_eq ha) h1
  next ha => exact absurd (BitVec.eq_of_toNat_eq ha) h2
  next => rfl

/-- A CLEAR while the restart is pending is discarded (R178). -/
theorem exec_clear_pending {s : State} (action : Byte) (h : ServiceHead) (hpend : s.sr.restartPending = true) :
    exec (clearCommand action h) s = .next (s.taken (clearCommand action h)) := by
  have hno (i : Instr) : ¬(s.taken i).serves = true := by
    rw [State.serves, show (s.taken i).sr.restartPending = true from hpend, Bool.and_comm]
    exact Bool.false_ne_true
  by_cases h1 : action = 1
  · subst h1
    exact congrArg Host.Outcome.next (if_neg (hno (.clearLatches h)))
  by_cases h2 : action = 2
  · subst h2
    exact congrArg Host.Outcome.next (if_neg (hno (.clearRestart h)))
  · rw [clearCommand_of_rest h1 h2]
    exact congrArg Host.Outcome.next (if_neg (hno (.clearUnknownAction action h)))

/-- The latches and the present set after a CLEAR of the latches: the event conditions have no cause, so they all go. -/
theorem State.clearLatches_sets (s : State) (d : Condition) :
    s.clearLatches.nsc.latches.has d = (s.nsc.latches.has d && s.causePresent d) ∧
    s.clearLatches.nsc.present.has d = (s.nsc.present.has d && !isEvent d) := by
  constructor
  · exact CondSet.has_ofPred _ d
  · refine (CondSet.has_ofPred _ d).trans (congrArg (s.nsc.present.has d && !·) ?_)
    rw [CondSet.has_ofPred]
    cases d <;> simp [isEvent, State.causePresent]

theorem State.clearLatches_rejoinRuns (s : State) : rejoinRuns s s.clearLatches :=
  State.evalRejoin_runs s _ (if_pos rfl).symm

/-- When a restart is admitted (R177). -/
theorem State.restartAdmitted_iff (s : State) : s.restartAdmitted = true ↔
    s.pvu.speed < s.prm.vStand ∧ (s.pvu.speedStatus = .valid ∨ s.pvu.speedStatus = .single ∨
      s.nsc.node = .listen ∨ s.nsc.node = .clamped ∨ s.nsc.node = .free) := by
  have hspeed : s.pvu.speedStatus.heard = true ↔ s.pvu.speedStatus = .valid ∨ s.pvu.speedStatus = .single := by
    cases s.pvu.speedStatus <;> decide
  have htracking : s.nsc.node.tracking = true ↔ s.nsc.node = .listen ∨ s.nsc.node = .clamped ∨ s.nsc.node = .free := by
    cases s.nsc.node <;> decide
  rw [State.restartAdmitted, Bool.and_eq_true, Bool.or_eq_true, decide_eq_true_iff, hspeed, htracking, or_assoc, and_comm]

/-- The causes R176 lists. -/
theorem State.causes_iff (s : State) :
    (s.causePresent .overlean = true ↔ 0 < s.le.overCount) ∧
    (s.role = .steer → (s.causePresent .voteOutlier = true ↔ s.slu.outlier = true)) ∧
    (s.role ≠ .steer → (s.causePresent .voteOutlier = true ↔ s.tsu.outlier = true)) ∧
    (s.causePresent .sensorFailed = true ↔ s.channel1.state = .failed ∨ s.channel2.state = .failed) ∧
    (s.causePresent .bridgeFault = true ↔ s.pins.bfltLow = true) ∧ (s.causePresent .brakeStuck = true ↔ s.bcu.state = .stuck) ∧
    (s.causePresent .haltTaken = true ↔ False) ∧ (s.causePresent .linkConflict = true ↔ False) ∧
    (s.causePresent .queueOverrun = true ↔ False) := by
  refine ⟨decide_eq_true_iff, fun h => ?_, fun h => ?_, ?_, Iff.rfl, beq_iff_eq, ?_, ?_, ?_⟩
  · exact iff_of_eq (congrArg (· = true) (if_pos h))
  · exact iff_of_eq (congrArg (· = true) (if_neg h))
  all_goals simp [State.causePresent]

/-- Settles O53: the three actions of a CLEAR, each answered with item 1 as it then stands. -/
theorem clearIsActedOn : Obligations.ClearIsActedOn := by
  refine ⟨fun s action h c hc hlive hon => ⟨fun hpend => ?_, fun hpend => ?_⟩, State.causes_iff⟩
  · rw [hc]
    exact exec_clear_pending action h hpend
  · have hserves (i : Instr) : (s.taken i).serves = true := by
      rw [State.serves_iff (s := s.taken i) hlive, show (s.taken i).sr.restartPending = false from hpend]
      rfl
    by_cases h1 : action = 1
    · subst h1 hc
      let u := (s.taken (.clearLatches h)).clearLatches
      have hexec : exec (.clearLatches h) s = .next (u.replyClear 1 0) :=
        congrArg Host.Outcome.next (if_pos (hserves (.clearLatches h)))
      rw [State.replyClear, State.reply_on (s := u) hon] at hexec
      refine ⟨_, 0, hexec, rfl, fun _ => ⟨rfl, hpend, fun d => ((s.taken (.clearLatches h)).clearLatches_sets d).1,
        fun d => ((s.taken (.clearLatches h)).clearLatches_sets d).2, rfl, (s.taken (.clearLatches h)).clearLatches_rejoinRuns⟩,
        fun h2 => ?_, fun h2 => absurd rfl h2, rfl⟩
      exact absurd h2 (by decide)
    by_cases h2 : action = 2
    · subst h2 hc
      let u := s.taken (.clearRestart h)
      have hiff := u.restartAdmitted_iff
      by_cases ha : u.restartAdmitted = true
      · have hexec : exec (.clearRestart h) s = .next { u.replyClear 2 0 with sr := { u.sr with restartPending := true } } :=
          congrArg Host.Outcome.next ((if_pos (hserves (.clearRestart h))).trans (if_pos ha))
        rw [State.replyClear, State.reply_on (s := u) hon] at hexec
        exact ⟨_, 0, hexec, rfl, fun h => absurd h h1, fun _ => ⟨rfl, fun _ => ⟨rfl, rfl⟩, fun hn => absurd (hiff.1 ha) hn⟩,
          fun _ hn => absurd rfl hn, rfl⟩
      · have hexec : exec (.clearRestart h) s = .next (u.replyClear 2 1) :=
          congrArg Host.Outcome.next ((if_pos (hserves (.clearRestart h))).trans (if_neg ha))
        rw [State.replyClear, State.reply_on (s := u) hon] at hexec
        exact ⟨_, 1, hexec, rfl, fun h => absurd h h1, fun _ => ⟨rfl, fun hy => absurd (hiff.2 hy) ha, fun _ => ⟨rfl, hpend⟩⟩,
          fun _ hn => absurd rfl hn, rfl⟩
    · rw [clearCommand_of_rest h1 h2] at hc
      subst hc
      let u := s.taken (.clearUnknownAction action h)
      have hexec : exec (.clearUnknownAction action h) s = .next (u.replyClear action 3) :=
        congrArg Host.Outcome.next (if_pos (hserves (.clearUnknownAction action h)))
      rw [State.replyClear, State.reply_on (s := u) hon] at hexec
      exact ⟨_, 3, hexec, rfl, fun h => absurd h h1, fun h => absurd h h2, fun _ _ => ⟨rfl, rfl, hpend⟩, rfl⟩

end Sys2Proof.Machine
end

section
/-! SUPPORT. The data a QUERY is answered with, field by field (R43, R80, R115, R137, R154, R174, R175). -/

namespace Sys2Proof.Machine

/-! ## Fields of a payload -/

/-- A one-byte field, a two-byte field and a signed field of a payload at a byte. -/
def holds1 (l : List Byte) (k n : Nat) : Prop := byteAt l k = BitVec.ofNat 8 n
def holds2 (l : List Byte) (k n : Nat) : Prop := halfAt l k = BitVec.ofNat 16 n
def holdsInt (l : List Byte) (k : Nat) (x : Int) : Prop := -32768 ≤ x → x ≤ 32767 → (halfAt l k).toInt = x

theorem byteAt_append_left {a b : List Byte} {k : Nat} (h : k < a.length) : byteAt (a ++ b) k = byteAt a k := by
  simp [byteAt, List.getElem?_append_left h]

theorem byteAt_append_right (a b : List Byte) (k : Nat) : byteAt (a ++ b) (a.length + k) = byteAt b k := by
  simp [byteAt, List.getElem?_append_right]

theorem halfAt_append_left {a b : List Byte} {k : Nat} (h : k + 1 < a.length) : halfAt (a ++ b) k = halfAt a k := by
  rw [halfAt, byteAt_append_left (by omega), byteAt_append_left h]
  rfl

theorem halfAt_append_right (a b : List Byte) (k : Nat) : halfAt (a ++ b) (a.length + k) = halfAt b k := by
  rw [halfAt, byteAt_append_right, Nat.add_assoc, byteAt_append_right]
  rfl

theorem halfAt_drop (l : List Byte) (k : Nat) : halfAt (l.drop k) 0 = halfAt l k := by
  simp [halfAt, byteAt, List.getElem?_drop]

/-- A two-byte field is read back as sent. -/
theorem halfOf_sent (n : Nat) : halfOf ((BitVec.ofNat 16 n).extractLsb' 8 8) ((BitVec.ofNat 16 n).extractLsb' 0 8) = BitVec.ofNat 16 n :=
  halfOf_halfBytes _

/-- A signed field that fits is read back as sent. -/
theorem halfOf_fit (free : Half) (x : Int) (h1 : -32768 ≤ x) (h2 : x ≤ 32767) :
    (halfOf ((fitHalf free x).extractLsb' 8 8) ((fitHalf free x).extractLsb' 0 8)).toInt = x := by
  rw [halfOf_halfBytes, fitHalf, if_pos ⟨h1, h2⟩]
  exact BitVec.toInt_ofInt_eq_self (by decide) h1 (Int.lt_of_le_of_lt h2 (by decide))

/-- The ms a timer shows. -/
theorem timerMs_eq (T : Timer) : timerMs T = min (T.getD 0 / 1000) 65535 := by
  cases T <;> rfl

/-! ## The items (R175) -/

/-- The fields of a sample record at a byte of a payload (R115). -/
def State.holdsSample (s : State) (l : List Byte) (k : Nat) (q : Sample) : Prop :=
  holds1 l k (recordCode q.state) ∧ holdsInt l (k + 1) (q.value.getD 0) ∧ holdsInt l (k + 3) (q.lastGood.getD 0) ∧
    holds2 l (k + 5) (s.ageMs q.stamp) ∧ holds1 l (k + 7) q.missRun ∧ holds1 l (k + 8) q.goodRun ∧
    holds1 l (k + 9) (missCode q.lastMiss)

theorem State.sentSample_holds (s : State) (a b : List Byte) (n : Nat) (q : Sample) :
    s.holdsSample (a ++ (s.sentSample n q ++ b)) a.length q := by
  refine ⟨byteAt_append_right a _ 0, fun h1 h2 => ?_, fun h1 h2 => ?_, ?_, byteAt_append_right a _ 7, byteAt_append_right a _ 8,
    byteAt_append_right a _ 9⟩
  · rw [halfAt_append_right]
    exact halfOf_fit _ _ h1 h2
  · rw [halfAt_append_right]
    exact halfOf_fit _ _ h1 h2
  · exact (halfAt_append_right a _ 5).trans (halfOf_sent _)

/-- An entry of item 3. -/
theorem State.sentEntry_holds (s : State) (a b : List Byte) (n : Nat) (e : Entry) :
    let l := a ++ s.sentEntry n (some e) ++ b
    let k := a.length
    byteAt l k = e.tag ∧ holds1 l (k + 1) (overrideCode e.kind) ∧ holdsInt l (k + 2) (e.angle.getD 0) ∧
      (∀ m, e.count = .finite m → holds2 l (k + 4) m ∧ holds2 l (k + 6) 0) ∧
      (∀ m, e.count = .forever m → holds2 l (k + 4) 0 ∧ holds2 l (k + 6) m) ∧
      (∀ x, e.origin = some x → holds1 l (k + 8) x.toNat) ∧ (e.origin = none → holds1 l (k + 8) 15) ∧
      holds1 l (k + 9) e.pending.toNat := by
  intro l k
  have hl : l = a ++ (s.sentEntry n (some e) ++ b) := List.append_assoc _ _ _
  have hone (i : Nat) : byteAt l (k + i) = byteAt (s.sentEntry n (some e) ++ b) i := by
    rw [hl]
    exact byteAt_append_right a _ i
  have htwo (i : Nat) : halfAt l (k + i) = halfAt (s.sentEntry n (some e) ++ b) i := by
    rw [hl]
    exact halfAt_append_right a _ i
  have hint : holdsInt l (k + 2) (e.angle.getD 0) := by
    intro h1 h2
    rw [htwo]
    exact halfOf_fit _ _ h1 h2
  refine ⟨hone 0, hone 1, hint, ?_⟩
  clear_value l k
  clear hl hint
  obtain ⟨tag, kind, angle, count, origin, pending⟩ := e
  cases count
  case finite c =>
    refine ⟨fun m hm => ?_, fun m hm => (nomatch hm), fun x hx => ?_, fun hx => ?_, hone 9⟩
    · cases hm
      exact ⟨(htwo 4).trans (halfOf_sent _), (htwo 6).trans (halfOf_sent _)⟩
    · subst hx
      exact hone 8
    · subst hx
      exact hone 8
  case forever c =>
    refine ⟨fun m hm => (nomatch hm), fun m hm => ?_, fun x hx => ?_, fun hx => ?_, hone 9⟩
    · cases hm
      exact ⟨(htwo 4).trans (halfOf_sent _), (htwo 6).trans (halfOf_sent _)⟩
    · subst hx
      exact hone 8
    · subst hx
      exact hone 8

/-- The flags byte of a candidate, bit by bit. -/
theorem candidateByte_read : ∀ (present used : Bool) (m : BitVec 4) (fresh : BitVec 2),
    (BitVec.ofBool present ++ BitVec.ofBool used ++ m ++ fresh).getLsbD 7 = present ∧
    (BitVec.ofBool present ++ BitVec.ofBool used ++ m ++ fresh).getLsbD 6 = used ∧
    (BitVec.ofBool present ++ BitVec.ofBool used ++ m ++ fresh).extractLsb' 0 2 = fresh := by
  decide +kernel

theorem State.sentCandidate_length (s : State) (n : Nat) (c : Candidate) (known used : Bool) :
    (s.sentCandidate n c known used).length = 4 := by
  unfold State.sentCandidate
  cases c.value <;> rfl

/-- A candidate of item 7. -/
theorem State.sentCandidate_holds (s : State) (a b : List Byte) (n : Nat) (c : Candidate) (known used : Bool) :
    let l := a ++ s.sentCandidate n c known used ++ b
    let k := a.length
    holds1 l k c.addr ∧ (byteAt l (k + 1)).getLsbD 7 = c.value.isSome ∧ (byteAt l (k + 1)).getLsbD 6 = used ∧
      (known = true → ((byteAt l (k + 1)).extractLsb' 0 2).toNat = freshCode c.fresh) ∧
      (∀ v, c.value = some v → holds2 l (k + 2) v) := by
  intro l k
  have hl : l = a ++ (s.sentCandidate n c known used ++ b) := List.append_assoc _ _ _
  have hone (i : Nat) : byteAt l (k + i) = byteAt (s.sentCandidate n c known used ++ b) i := by
    rw [hl]
    exact byteAt_append_right a _ i
  have htwo : halfAt l (k + 2) = halfAt (s.sentCandidate n c known used ++ b) 2 := by
    rw [hl]
    exact halfAt_append_right a _ 2
  obtain ⟨hpresent, hused, hfresh⟩ := candidateByte_read c.value.isSome used ((Config.freeByte (s.free + n)).extractLsb' 2 4)
    (if known then BitVec.ofNat 2 (freshCode c.fresh) else (Config.freeByte (s.free + n)).extractLsb' 0 2)
  refine ⟨hone 0, ?_, ?_, fun hk => ?_, fun v hv => ?_⟩
  · rw [hone]
    exact hpresent
  · rw [hone]
    exact hused
  · rw [hone]
    refine (congrArg BitVec.toNat (hfresh.trans (if_pos hk))).trans ?_
    cases c.fresh <;> rfl
  · refine htwo.trans ?_
    unfold State.sentCandidate
    rw [hv]
    exact halfOf_sent v

/-- A record of a row of item 2. -/
theorem State.sentRecord_holds {α : Type} (s : State) (a b : List Byte) (n addr m : Nat) (rec : Option (α × Stamp))
    (fields : α → List Byte) :
    let l := a ++ s.sentRecord n addr rec m fields ++ b
    let k := a.length
    holds1 l k (freshCode (s.freshOf addr rec)) ∧
      (∀ x st, rec = some (x, st) → holds2 l (k + 1) (s.ageMs st) ∧ l.drop (k + 3) = fields x ++ b) := by
  intro l k
  have hl : l = a ++ (s.sentRecord n addr rec m fields ++ b) := List.append_assoc _ _ _
  rw [hl]
  refine ⟨byteAt_append_right a _ 0, fun x st hx => ?_⟩
  subst hx
  refine ⟨(halfAt_append_right a _ 1).trans (halfOf_sent _), ?_⟩
  rw [List.drop_append, List.drop_eq_nil_of_le (Nat.le_add_right _ _), Nat.add_sub_cancel_left]
  rfl

theorem State.sentRecord_length {α : Type} (s : State) (n addr m : Nat) (rec : Option (α × Stamp)) {fields : α → List Byte}
    (h : ∀ x, (fields x).length = m) : (s.sentRecord n addr rec m fields).length = 3 + m := by
  unfold State.sentRecord
  cases rec
  case none => simp [State.freeBytes, sent1]; omega
  case some q => simp [sent1, sent2, halfBytes, h]; omega

/-! ## The answer (R174) -/

/-- The data of the item a QUERY names. -/
def State.itemData (s : State) (item index page : Byte) : Option (List Byte) :=
  match item.toNat with
  | 1 => onPage0 page s.item1
  | 2 => if index.toNat < 15 then onPages page (s.item2a index.toNat) (s.item2b index.toNat) else none
  | 3 => onPages page (s.item3 0) (s.item3 2)
  | 4 => onPages page s.item4a s.item4b
  | 5 => if index.toNat ≤ 11 then onPage0 page (s.item5 index.toNat) else none
  | 6 => if s.role = .steer then none else onPage0 page s.item6
  | 7 => onPage0 page s.item7
  | 8 => onPage0 page (if s.role = .steer then s.item8Steer else s.item8Tilt)
  | _ => none

theorem State.taken_itemData (s : State) (i : Instr) (item index page : Byte) :
    (s.taken i).itemData item index page = s.itemData item index page := rfl

/-- An item that no QUERY knows. -/
def unknownItem (item : Byte) : Prop := item.toNat = 0 ∨ 8 < item.toNat

theorem State.itemData_unknown {item : Byte} (h : unknownItem item) (s : State) (index page : Byte) :
    s.itemData item index page = none := by
  unfold State.itemData
  unfold unknownItem at h
  split
  case h_9 => rfl
  all_goals omega

theorem queryCommand_unknown {item : Byte} (h : unknownItem item) (index page : Byte) (head : ServiceHead) :
    queryCommand item index page head = .queryUnknownItem item index page head := by
  unfold queryCommand
  unfold unknownItem at h
  split
  case h_9 => rfl
  all_goals omega

theorem item_cases {item : Byte} (h : ¬unknownItem item) : item = 1 ∨ item = 2 ∨ item = 3 ∨ item = 4 ∨ item = 5 ∨ item = 6 ∨
    item = 7 ∨ item = 8 := by
  unfold unknownItem at h
  bv_omega

/-- The command a QUERY names answers with that item's data. -/
theorem exec_queryCommand (s : State) (item index page : Byte) (h : ServiceHead) : exec (queryCommand item index page h) s =
    .next (s.query (queryCommand item index page h) item index page (fun u => u.itemData item index page)) := by
  by_cases hu : unknownItem item
  · rw [queryCommand_unknown hu, show (fun u : State => u.itemData item index page) = fun _ => none from
      funext fun u => u.itemData_unknown hu index page]
    rfl
  · rcases item_cases hu with rfl | rfl | rfl | rfl | rfl | rfl | rfl | rfl <;> rfl

/-- The answer's payload: item byte, index and result, and the data of an item there is. -/
def State.answerBytes (s : State) (item index page : Byte) : List Byte :=
  match s.itemData item index page with
  | some d => [s.itemByte item page, index, 0] ++ d
  | none => [s.itemByte item page, index, 3]

/-- A QUERY that is served fills the REPORT slot with the answer. -/
theorem exec_query_served {s : State} (item index page : Byte) (h : ServiceHead) (hlive : s.nsc.node.live = true)
    (hpend : s.sr.restartPending = false) (hon : s.bi.tx ≠ .off) : exec (queryCommand item index page h) s = .next { s with
      bi := { s.bi with slots := { s.bi.slots with report := some ⟨s.answerBytes item index page, 0⟩ }
                        tx := if s.bi.tx = .idle then .waitGap else s.bi.tx }
      handed := s.handed.erase (queryCommand item index page h)
      free := s.free + 64 } := by
  let u := s.taken (queryCommand item index page h)
  have hserves : u.serves = true := by
    rw [State.serves_iff (s := u) hlive, show u.sr.restartPending = false from hpend]
    rfl
  have hdata : u.itemData item index page = s.itemData item index page := rfl
  have hquery : s.query (queryCommand item index page h) item index page (fun u => u.itemData item index page) =
      u.reply (s.answerBytes item index page) := by
    refine (if_pos hserves).trans ?_
    show u.answer item index page (u.itemData item index page) = _
    rw [hdata, State.answerBytes]
    cases s.itemData item index page <;> rfl
  rw [exec_queryCommand, hquery, State.reply_on (s := u) hon]
  rfl

/-- A QUERY while the restart is pending is discarded (R178). -/
theorem exec_query_pending {s : State} (item index page : Byte) (h : ServiceHead) (hpend : s.sr.restartPending = true) :
    exec (queryCommand item index page h) s = .next (s.taken (queryCommand item index page h)) := by
  have hno (i : Instr) : ¬(s.taken i).serves = true := by
    rw [State.serves, show (s.taken i).sr.restartPending = true from hpend, Bool.and_comm]
    exact Bool.false_ne_true
  rw [exec_queryCommand]
  exact congrArg Host.Outcome.next (if_neg (hno _))

/-- The queries that are refused: an unknown item, a page beyond the last, an index with no such row or bytes, and the brake of a
STEER node. -/
def State.badQuery (s : State) (item index page : Byte) : Prop :=
  let i := item.toNat
  i = 0 ∨ 8 < i ∨ (if i = 2 ∨ i = 3 ∨ i = 4 then 1 < page.toNat else page ≠ 0) ∨
    (i = 2 ∧ 15 ≤ index.toNat) ∨ (i = 5 ∧ 11 < index.toNat) ∨ (i = 6 ∧ s.role = .steer)

theorem onPages_none {page : Byte} {d0 d1 : List Byte} : onPages page d0 d1 = none ↔ 1 < page.toNat := by
  unfold onPages
  by_cases h0 : page = 0
  · rw [if_pos h0, h0]
    exact iff_of_false (Option.some_ne_none _) (by decide)
  · rw [if_neg h0]
    by_cases h1 : page = 1
    · rw [if_pos h1, h1]
      exact iff_of_false (Option.some_ne_none _) (by decide)
    · rw [if_neg h1]
      exact ⟨fun _ => by bv_omega, fun _ => rfl⟩

theorem onPage0_none {page : Byte} {d : List Byte} : onPage0 page d = none ↔ page ≠ 0 := by
  unfold onPage0
  split <;> simp_all

/-- Just those have no data. -/
theorem State.itemData_none (s : State) (item index page : Byte) :
    s.itemData item index page = none ↔ s.badQuery item index page := by
  by_cases hu : unknownItem item
  · exact iff_of_true (s.itemData_unknown hu index page) (hu.imp_right .inl)
  · rcases item_cases hu with rfl | rfl | rfl | rfl | rfl | rfl | rfl | rfl <;> unfold State.itemData State.badQuery <;>
      simp [onPages_none, onPage0_none]
    all_goals grind

/-! ## The items with data, field by field -/

/-- The last HALT of item 1 (R154). -/
def haltBytes : Option HaltRecord → List Byte
  | some h => sent1 h.src.toNat ++ [h.reason, h.detail]
  | none => [15, 0, 0]

/-- Item 1 up to the last HALT. -/
def State.nodeBytes (s : State) : List Byte :=
  sent1 (nodeCode s.nsc.node) ++ halfBytes s.nsc.present ++ sent1 s.nsc.present.primary ++ halfBytes s.nsc.latches ++
    sent1 s.nsc.joinCount ++ sent1 s.nsc.clearRun ++ sent1 s.nsc.sendCount ++ sent2 (timerMs s.nsc.rejoin) ++
    sent2 (timerMs s.nsc.dormantDwell)

theorem State.item1_eq (s : State) : s.item1 = s.nodeBytes ++ haltBytes s.nsc.lastHalt := rfl

theorem State.item1_holds (s : State) (b0 b1 b2 : Byte) :
    let l := [b0, b1, b2] ++ s.item1
    l.length = 19 ∧ holds1 l 3 (nodeCode s.nsc.node) ∧ halfAt l 4 = s.nsc.present ∧ holds1 l 6 s.nsc.present.primary ∧
      halfAt l 7 = s.nsc.latches ∧ holds1 l 9 s.nsc.joinCount ∧ holds1 l 10 s.nsc.clearRun ∧ holds1 l 11 s.nsc.sendCount ∧
      holds2 l 12 (timerMs s.nsc.rejoin) ∧ holds2 l 14 (timerMs s.nsc.dormantDwell) ∧
      (s.nsc.lastHalt = none → holds1 l 16 15 ∧ holds1 l 17 0 ∧ holds1 l 18 0) ∧
      (∀ q, s.nsc.lastHalt = some q → holds1 l 16 q.src.toNat ∧ byteAt l 17 = q.reason ∧ byteAt l 18 = q.detail) := by
  rw [State.item1_eq]
  refine ⟨?_, rfl, halfOf_halfBytes _, rfl, halfOf_halfBytes _, rfl, rfl, rfl, halfOf_sent _, halfOf_sent _, fun h => ?_, fun q h => ?_⟩
  · cases s.nsc.lastHalt <;> rfl
  · rw [h]
    exact ⟨rfl, rfl, rfl⟩
  · rw [h]
    exact ⟨rfl, rfl, rfl⟩

theorem State.item2a_holds (s : State) (i : Nat) (b0 b1 b2 : Byte) :
    let l := [b0, b1, b2] ++ s.item2a i
    l.length = 20 ∧ holds1 l 3 (roleCode (s.roleOf i)) ∧ holds2 l 4 (s.sRow i / 1000) ∧
      holds1 l 6 (freshCode (s.freshOf i (s.row i).rider)) ∧ holds1 l 15 (freshCode (s.freshOf i (s.row i).speed)) ∧
      (∀ x st, (s.row i).rider = some (x, st) → holds2 l 7 (s.ageMs st) ∧ (l.drop 9).take 6 = x.toBytes) ∧
      (∀ x st, (s.row i).speed = some (x, st) → holds2 l 16 (s.ageMs st) ∧ holds2 l 18 x) := by
  intro l
  let front : List Byte := [b0, b1, b2] ++ (sent1 (roleCode (s.roleOf i)) ++ sent2 (s.sRow i / 1000))
  let rider := s.sentRecord 0 i (s.row i).rider 6 Rider.toBytes
  let speed := s.sentRecord 8 i (s.row i).speed 2 sent2
  have hrider : rider.length = 9 := s.sentRecord_length 0 i 6 _ fun _ => rfl
  have hspeed : speed.length = 5 := s.sentRecord_length 8 i 2 _ fun _ => rfl
  have hl : l = front ++ rider ++ speed := by simp [l, front, rider, speed, State.item2a]
  have hl2 : l = (front ++ rider) ++ speed ++ [] := hl.trans (List.append_nil _).symm
  have hlen : (front ++ rider).length = 15 := by rw [List.length_append, hrider]; rfl
  obtain ⟨hr1, hr2⟩ := s.sentRecord_holds front speed 0 i 6 (s.row i).rider Rider.toBytes
  obtain ⟨hs1, hs2⟩ := s.sentRecord_holds (front ++ rider) [] 8 i 2 (s.row i).speed sent2
  rw [← hl] at hr1 hr2
  rw [← hl2, hlen] at hs1 hs2
  refine ⟨?_, rfl, halfOf_sent _, hr1, hs1, fun x st hx => ⟨(hr2 x st hx).1, ?_⟩, fun x st hx => ⟨(hs2 x st hx).1, ?_⟩⟩
  · rw [hl, List.length_append, hlen, hspeed]
  · rw [show l.drop 9 = _ from (hr2 x st hx).2]
    rfl
  · rw [holds2, ← halfAt_drop, show l.drop 18 = _ from (hs2 x st hx).2]
    exact halfOf_sent x

theorem State.item2b_holds (s : State) (i : Nat) (b0 b1 b2 : Byte) :
    let l := [b0, b1, b2] ++ s.item2b i
    l.length = 24 ∧ holds1 l 3 (freshCode (s.freshOf i (s.row i).contrib)) ∧
      (∀ x st, (s.row i).contrib = some (x, st) → holds2 l 4 (s.ageMs st) ∧ l.drop 6 = x.toBytes) := by
  intro l
  have hcontrib : (s.item2b i).length = 21 := s.sentRecord_length 0 i 18 _ fun _ => rfl
  obtain ⟨h1, h2⟩ := s.sentRecord_holds [b0, b1, b2] [] 0 i 18 (s.row i).contrib Contrib.toBytes
  rw [List.append_nil] at h1 h2
  refine ⟨?_, h1, fun x st hx => ⟨(h2 x st hx).1, (h2 x st hx).2.trans (List.append_nil _)⟩⟩
  rw [List.length_append, hcontrib]
  rfl

theorem State.sentEntry_length (s : State) (k : Nat) (o : Option Entry) : (s.sentEntry k o).length = 10 := by
  cases o with
  | none => rfl
  | some e =>
    obtain ⟨tag, kind, angle, count, origin, pending⟩ := e
    cases count <;> rfl

/-- Item 3, an entry of it, and what stands where there is none. -/
theorem State.item3_holds (s : State) (i : Nat) (b0 b1 b2 : Byte) :
    let l := [b0, b1, b2] ++ s.item3 i
    l.length = 26 ∧ holds1 l 3 (refusalCode s.le.lastRefusal) ∧ holds1 l 4 s.le.mismatch ∧ holds1 l 5 s.le.stack.length ∧
      ∀ j, j < 2 → ∃ a b, l = a ++ s.sentEntry j s.le.stack[i + j]? ++ b ∧ a.length = 6 + 10 * j := by
  intro l
  let front : List Byte :=
    [b0, b1, b2] ++ (sent1 (refusalCode s.le.lastRefusal) ++ sent1 s.le.mismatch ++ sent1 s.le.stack.length)
  have hl : l = front ++ s.sentEntry 0 s.le.stack[i]? ++ s.sentEntry 1 s.le.stack[i + 1]? := by
    simp [l, front, State.item3]
  refine ⟨?_, rfl, rfl, rfl, fun j hj => ?_⟩
  · rw [hl, List.length_append, List.length_append, State.sentEntry_length, State.sentEntry_length]
    rfl
  · obtain rfl | rfl : j = 0 ∨ j = 1 := by omega
    · exact ⟨front, _, hl, rfl⟩
    · exact ⟨_, [], hl.trans (List.append_nil _).symm, by rw [List.length_append, State.sentEntry_length]; rfl⟩

/-- The entries of item 3 from a depth onward, field by field. -/
theorem State.item3_entries (s : State) (i : Nat) (b0 b1 b2 : Byte) :
    let l := [b0, b1, b2] ++ s.item3 i
    l.length = 26 ∧ holds1 l 3 (refusalCode s.le.lastRefusal) ∧ holds1 l 4 s.le.mismatch ∧ holds1 l 5 s.le.stack.length ∧
      ∀ j, j < 2 →
        (s.le.stack[i + j]? = none → (l.drop (6 + 10 * j)).take 10 = List.replicate 10 0) ∧
        (∀ e, s.le.stack[i + j]? = some e → byteAt l (6 + 10 * j) = e.tag ∧ holds1 l (7 + 10 * j) (overrideCode e.kind) ∧
          holdsInt l (8 + 10 * j) (e.angle.getD 0) ∧
          (∀ n, e.count = .finite n → holds2 l (10 + 10 * j) n ∧ holds2 l (12 + 10 * j) 0) ∧
          (∀ n, e.count = .forever n → holds2 l (10 + 10 * j) 0 ∧ holds2 l (12 + 10 * j) n) ∧
          (∀ a, e.origin = some a → holds1 l (14 + 10 * j) a.toNat) ∧ (e.origin = none → holds1 l (14 + 10 * j) 15) ∧
          holds1 l (15 + 10 * j) e.pending.toNat) := by
  obtain ⟨hlen, hrefusal, hmismatch, hdepth, hentry⟩ := s.item3_holds i b0 b1 b2
  refine ⟨hlen, hrefusal, hmismatch, hdepth, fun j hj => ?_⟩
  obtain ⟨a, b, hl, ha⟩ := hentry j hj
  rw [hl]
  refine ⟨fun h => ?_, fun e h => ?_⟩
  · rw [h, ← ha, List.append_assoc, List.drop_left]
    rfl
  · have hfields := s.sentEntry_holds a b j e
    rw [h]
    rw [ha] at hfields
    obtain rfl | rfl : j = 0 ∨ j = 1 := by omega
    · exact hfields
    · exact hfields

theorem State.item4a_holds (s : State) (b0 b1 b2 : Byte) :
    let l := [b0, b1, b2] ++ s.item4a
    l.length = 28 ∧ s.holdsSample l 3 s.channel1 ∧ s.holdsSample l 13 s.channel2 ∧ holds1 l 23 s.mu.edgeCount ∧
      (∀ v, s.mu.wheelSpeed = some v → holds2 l 24 v) ∧ (s.mu.wheelSpeed = none → holds2 l 24 65535) ∧
      holdsInt l 26 s.driveValue := by
  intro l
  let tail : List Byte := sent1 s.mu.edgeCount ++ halfBytes s.pulseField ++ s.sentInt 4 s.driveValue
  have hl : l = [b0, b1, b2] ++ (s.sentSample 0 s.channel1 ++ (s.sentSample 2 s.channel2 ++ tail)) := by
    simp [l, tail, State.item4a]
  have hl2 : l = ([b0, b1, b2] ++ s.sentSample 0 s.channel1) ++ (s.sentSample 2 s.channel2 ++ tail) :=
    hl.trans (List.append_assoc _ _ _).symm
  have hpulse : halfAt l 24 = s.pulseField := halfOf_halfBytes _
  refine ⟨rfl, ?_, ?_, rfl, fun v h => ?_, fun h => ?_, halfOf_fit _ _⟩
  · rw [hl]
    exact s.sentSample_holds [b0, b1, b2] _ 0 s.channel1
  · rw [hl2]
    exact s.sentSample_holds ([b0, b1, b2] ++ s.sentSample 0 s.channel1) tail 2 s.channel2
  · rw [holds2, hpulse, State.pulseField, h]
  · rw [holds2, hpulse, State.pulseField, h]
    rfl

theorem State.item4b_holds (s : State) (b0 b1 b2 : Byte) :
    let l := [b0, b1, b2] ++ s.item4b
    l.length = 13 ∧ s.holdsSample l 3 s.mu.records.temp := by
  refine ⟨rfl, ?_⟩
  rw [State.item4b, ← List.append_nil (s.sentSample 0 s.mu.records.temp)]
  exact s.sentSample_holds [b0, b1, b2] [] 0 s.mu.records.temp

theorem State.sentBrakeTimer_length (s : State) : s.sentBrakeTimer.length = 3 := by
  unfold State.sentBrakeTimer
  split <;> rfl

theorem State.item6_holds (s : State) (b0 b1 b2 : Byte) :
    let l := [b0, b1, b2] ++ s.item6
    l.length = 13 ∧ holds1 l 3 (brakeCode s.bcu.state) ∧ holds1 l 4 s.bcu.driver.toNat ∧ holds1 l 5 (switchCode s.bcu.switch) ∧
      holds1 l 6 s.bcu.demand.toNat ∧ holds1 l 7 (flagCode s.partnerFlag) ∧ (s.bcu.timer = none → holds1 l 8 0) ∧
      (∀ n, s.bcu.timer = some (.brake, n) → holds1 l 8 1 ∧ holds2 l 9 (msShown n)) ∧
      (∀ n, s.bcu.timer = some (.preload, n) → holds1 l 8 2 ∧ holds2 l 9 (msShown n)) ∧ holds1 l 11 s.bcu.invalidRun ∧
      holds1 l 12 s.bcu.agreeRun := by
  intro l
  let front : List Byte := [b0, b1, b2] ++ (sent1 (brakeCode s.bcu.state) ++ sent1 s.bcu.driver.toNat ++
    sent1 (switchCode s.bcu.switch) ++ sent1 s.bcu.demand.toNat ++ sent1 (flagCode s.partnerFlag))
  let runs : List Byte := sent1 s.bcu.invalidRun ++ sent1 s.bcu.agreeRun
  have hl : l = front ++ (s.sentBrakeTimer ++ runs) := by simp [l, front, runs, State.item6]
  have hl2 : l = (front ++ s.sentBrakeTimer) ++ runs := hl.trans (List.append_assoc _ _ _).symm
  have hlen : (front ++ s.sentBrakeTimer).length = 11 := by rw [List.length_append, State.sentBrakeTimer_length]; rfl
  have htimer {x : List Byte} (h : s.sentBrakeTimer = x) : byteAt l 8 = byteAt (x ++ runs) 0 ∧ halfAt l 9 = halfAt (x ++ runs) 1 := by
    rw [hl, h]
    exact ⟨byteAt_append_right front _ 0, halfAt_append_right front _ 1⟩
  have hruns (k : Nat) : byteAt l (11 + k) = byteAt runs k := by
    rw [hl2, ← hlen]
    exact byteAt_append_right _ runs k
  refine ⟨?_, rfl, rfl, rfl, rfl, rfl, fun h => ?_, fun n h => ?_, fun n h => ?_, hruns 0, hruns 1⟩
  · rw [hl2, List.length_append, hlen]
    rfl
  · have hx : s.sentBrakeTimer = sent1 0 ++ s.freeBytes 0 2 := by unfold State.sentBrakeTimer; rw [h]
    exact (htimer hx).1
  · have hx : s.sentBrakeTimer = sent1 1 ++ sent2 (msShown n) := by unfold State.sentBrakeTimer; rw [h]
    exact ⟨(htimer hx).1, (htimer hx).2.trans (halfOf_sent _)⟩
  · have hx : s.sentBrakeTimer = sent1 2 ++ sent2 (msShown n) := by unfold State.sentBrakeTimer; rw [h]
    exact ⟨(htimer hx).1, (htimer hx).2.trans (halfOf_sent _)⟩

/-- Item 7, and where its candidates stand. -/
theorem State.item7_holds (s : State) (b0 b1 b2 : Byte) :
    let l := [b0, b1, b2] ++ s.item7
    let u := s.pvu.used
    l.length = 29 ∧ holds2 l 3 s.pvu.speed ∧ holds1 l 5 (speedCode s.pvu.speedStatus) ∧ holds2 l 6 (timerMs s.pvu.speedHold) ∧
      holdsInt l 24 s.pvu.view ∧ holds1 l 26 (viewCode s.pvu.viewStatus) ∧ holds2 l 27 (timerMs s.pvu.viewHold) ∧
      ∀ k q used, (s.candidates.zip [u.own, u.drive, u.peer1, u.peer2])[k]? = some (q, used) →
        ∃ a b n known, l = a ++ s.sentCandidate n q known used ++ b ∧ a.length = 8 + 4 * k ∧
          (q.addr ≠ 15 → (k = 0 → q.value.isSome = true) → known = true) := by
  intro l u
  let front : List Byte := [b0, b1, b2] ++ (sent2 s.pvu.speed ++ sent1 (speedCode s.pvu.speedStatus) ++ sent2 (timerMs s.pvu.speedHold))
  let own := s.sentCandidate 0 s.ownCandidate s.ownCandidate.value.isSome u.own
  let drive := s.sentCandidate 4 s.driveCandidate s.driveCandidate.hasRecord u.drive
  let peer1 := s.sentCandidate 8 s.peerCandidates.1 s.peerCandidates.1.hasRecord u.peer1
  let peer2 := s.sentCandidate 12 s.peerCandidates.2 s.peerCandidates.2.hasRecord u.peer2
  let tail : List Byte := s.sentInt 16 s.pvu.view ++ sent1 (viewCode s.pvu.viewStatus) ++ sent2 (timerMs s.pvu.viewHold)
  have hl : l = front ++ own ++ drive ++ peer1 ++ peer2 ++ tail := by
    simp [l, front, own, drive, peer1, peer2, tail, u, State.item7]
  have h1 : (front ++ own).length = 12 := by rw [List.length_append, State.sentCandidate_length]; rfl
  have h2 : (front ++ own ++ drive).length = 16 := by rw [List.length_append, h1, State.sentCandidate_length]
  have h3 : (front ++ own ++ drive ++ peer1).length = 20 := by rw [List.length_append, h2, State.sentCandidate_length]
  have h4 : (front ++ own ++ drive ++ peer1 ++ peer2).length = 24 := by rw [List.length_append, h3, State.sentCandidate_length]
  have hbyte (k : Nat) : byteAt l (24 + k) = byteAt tail k := by
    rw [hl, ← h4]
    exact byteAt_append_right _ tail k
  have hhalf (k : Nat) : halfAt l (24 + k) = halfAt tail k := by
    rw [hl, ← h4]
    exact halfAt_append_right _ tail k
  refine ⟨?_, halfOf_sent _, rfl, halfOf_sent _, fun hlo hhi => ?_, hbyte 2, (hhalf 3).trans (halfOf_sent _), fun k q used hk => ?_⟩
  · rw [hl, List.length_append, h4]
    rfl
  · rw [show halfAt l 24 = _ from hhalf 0]
    exact halfOf_fit _ _ hlo hhi
  · have hrecord {c : Candidate} (h : c.addr ≠ 15) : c.hasRecord = true := bne_iff_ne.2 h
    obtain rfl | rfl | rfl | rfl | hout : k = 0 ∨ k = 1 ∨ k = 2 ∨ k = 3 ∨ 4 ≤ k := by omega
    · cases hk
      exact ⟨front, drive ++ peer1 ++ peer2 ++ tail, 0, _, by rw [hl]; simp [own], rfl, fun _ h => h rfl⟩
    · cases hk
      exact ⟨front ++ own, peer1 ++ peer2 ++ tail, 4, _, by rw [hl]; simp [drive], h1, fun h _ => hrecord h⟩
    · cases hk
      exact ⟨front ++ own ++ drive, peer2 ++ tail, 8, _, by rw [hl]; simp [peer1], h2, fun h _ => hrecord h⟩
    · cases hk
      exact ⟨front ++ own ++ drive ++ peer1, tail, 12, _, hl, h3, fun h _ => hrecord h⟩
    · rw [List.getElem?_eq_none (by simpa [State.candidates] using hout)] at hk
      exact nomatch hk

theorem State.sentRamp_length (s : State) : s.sentRamp.length = 3 := by
  unfold State.sentRamp
  split <;> rfl

theorem tsuFlags_eq : ∀ saturated disagree outlier absent : Bool,
    BitVec.ofNat 8 (flagsByte [saturated, disagree, outlier, absent]) =
      0#4 ++ BitVec.ofBool absent ++ BitVec.ofBool outlier ++ BitVec.ofBool disagree ++ BitVec.ofBool saturated := by
  decide

theorem sluFlags_eq : ∀ saturated coupling soft outlier known : Bool,
    BitVec.ofNat 8 (flagsByte [saturated, coupling, soft, outlier, known]) =
      0#3 ++ BitVec.ofBool known ++ BitVec.ofBool outlier ++ BitVec.ofBool soft ++ BitVec.ofBool coupling ++
        BitVec.ofBool saturated := by
  decide

/-- Item 8 of a tilt role up to the output torque. -/
def State.shareBytes (s : State) : List Byte :=
  s.sentInt 0 s.tsu.tauD ++ sent1 s.tsu.wTh ++ sent1 s.tsu.wJoin ++ sent1 s.tsu.w ++ sent1 s.tsu.wP ++ s.sentInt 1 s.tsu.limit ++
    s.sentInt 2 s.tsu.share ++ sent2 s.tsu.factor ++ s.sentInt 3 s.tsu.tauO

theorem State.shareBytes_holds (s : State) (b0 b1 b2 : Byte) :
    let l := [b0, b1, b2] ++ s.shareBytes
    let u := s.tsu
    holdsInt l 3 u.tauD ∧ holds1 l 5 u.wTh ∧ holds1 l 6 u.wJoin ∧ holds1 l 7 u.w ∧ holds1 l 8 u.wP ∧ holdsInt l 9 u.limit ∧
      holdsInt l 11 u.share ∧ holds2 l 13 u.factor ∧ holdsInt l 15 u.tauO :=
  ⟨halfOf_fit _ _, rfl, rfl, rfl, rfl, halfOf_fit _ _, halfOf_fit _ _, halfOf_sent _, halfOf_fit _ _⟩

/-- Item 8 of a tilt role from the flags on. -/
def State.voteBytes (s : State) : List Byte :=
  sent1 (flagsByte [s.tsu.saturated, s.tsu.disagree, s.tsu.outlier, s.tsu.partnerAbsent]) ++ sent1 s.tsu.disagreeRun ++
    sent1 s.tsu.agreeRun ++ sent1 s.tsu.voteRun

/-- Fields in the front part of a payload. -/
theorem holds1_front {a b : List Byte} {k n : Nat} (h : k < a.length) (hx : holds1 a k n) : holds1 (a ++ b) k n :=
  (byteAt_append_left h).trans hx

theorem holds2_front {a b : List Byte} {k n : Nat} (h : k + 1 < a.length) (hx : holds2 a k n) : holds2 (a ++ b) k n :=
  (halfAt_append_left h).trans hx

theorem holdsInt_front {a b : List Byte} {k : Nat} {x : Int} (h : k + 1 < a.length) (hx : holdsInt a k x) :
    holdsInt (a ++ b) k x :=
  fun h1 h2 => (congrArg BitVec.toInt (halfAt_append_left h)).trans (hx h1 h2)

theorem State.item8Tilt_eq (s : State) : s.item8Tilt = s.shareBytes ++ (s.sentRamp ++ s.voteBytes) := by
  simp [State.item8Tilt, State.shareBytes, State.voteBytes]

theorem State.item8Tilt_holds (s : State) (b0 b1 b2 : Byte) :
    let l := [b0, b1, b2] ++ s.item8Tilt
    let u := s.tsu
    l.length = 24 ∧ holdsInt l 3 u.tauD ∧ holds1 l 5 u.wTh ∧ holds1 l 6 u.wJoin ∧ holds1 l 7 u.w ∧ holds1 l 8 u.wP ∧
      holdsInt l 9 u.limit ∧ holdsInt l 11 u.share ∧ holds2 l 13 u.factor ∧ holdsInt l 15 u.tauO ∧
      (u.ramp = .idle → holds1 l 17 0 ∧ holds2 l 18 0) ∧
      (∀ st, u.ramp = .running st → holds1 l 17 1 ∧ holds2 l 18 (s.ageMs st)) ∧
      (u.ramp = .complete → holds1 l 17 2 ∧ holds2 l 18 0) ∧
      byteAt l 20 = 0#4 ++ BitVec.ofBool u.partnerAbsent ++ BitVec.ofBool u.outlier ++ BitVec.ofBool u.disagree ++
        BitVec.ofBool u.saturated ∧
      holds1 l 21 u.disagreeRun ∧ holds1 l 22 u.agreeRun ∧ holds1 l 23 u.voteRun := by
  let front : List Byte := [b0, b1, b2] ++ s.shareBytes
  obtain ⟨hd, hth, hjoin, hw, hwp, hlimit, hshare, hfactor, hout⟩ := s.shareBytes_holds b0 b1 b2
  have hfront : front.length = 17 := rfl
  have hlen : (front ++ s.sentRamp).length = 20 := by rw [List.length_append, State.sentRamp_length, hfront]
  rw [State.item8Tilt_eq, ← List.append_assoc]
  have hramp {n m : Nat} (h : s.sentRamp = sent1 n ++ sent2 m) :
      holds1 (front ++ (s.sentRamp ++ s.voteBytes)) 17 n ∧ holds2 (front ++ (s.sentRamp ++ s.voteBytes)) 18 m := by
    rw [h]
    exact ⟨byteAt_append_right front _ 0, (halfAt_append_right front _ 1).trans (halfOf_sent m)⟩
  have htail (k : Nat) : byteAt (front ++ (s.sentRamp ++ s.voteBytes)) (20 + k) = byteAt s.voteBytes k := by
    rw [← List.append_assoc, ← hlen]
    exact byteAt_append_right _ _ k
  have h1 {k : Nat} (h : k < 17) : k < front.length := hfront.symm ▸ h
  refine ⟨?_, holdsInt_front (h1 (by decide)) hd, holds1_front (h1 (by decide)) hth, holds1_front (h1 (by decide)) hjoin,
    holds1_front (h1 (by decide)) hw, holds1_front (h1 (by decide)) hwp, holdsInt_front (h1 (by decide)) hlimit,
    holdsInt_front (h1 (by decide)) hshare, holds2_front (h1 (by decide)) hfactor, holdsInt_front (h1 (by decide)) hout,
    fun h => hramp ?_, fun st h => hramp ?_, fun h => hramp ?_, (htail 0).trans (tsuFlags_eq _ _ _ _), htail 1, htail 2, htail 3⟩
  · rw [← List.append_assoc, List.length_append, hlen]
    rfl
  all_goals
    unfold State.sentRamp
    rw [h]

theorem State.item8Steer_holds (s : State) (b0 b1 b2 : Byte) :
    let l := [b0, b1, b2] ++ s.item8Steer
    let u := s.slu
    l.length = 17 ∧ holdsInt l 3 u.gain ∧ holdsInt l 5 u.tauA ∧ holds1 l 7 u.runA ∧
      holds1 l 8 (if (s.addrOf .tiltB).isNone then 0 else u.runB) ∧ holdsInt l 9 (u.phiTilt.getD 0) ∧ holdsInt l 11 u.tauC ∧
      holdsInt l 13 u.tauS ∧
      byteAt l 15 = 0#3 ++ BitVec.ofBool u.phiTilt.isSome ++ BitVec.ofBool u.outlier ++ BitVec.ofBool u.softStop ++
        BitVec.ofBool u.coupling ++ BitVec.ofBool u.saturated ∧
      holds1 l 16 u.voteRun :=
  ⟨rfl, halfOf_fit _ _, halfOf_fit _ _, rfl, rfl, halfOf_fit _ _, halfOf_fit _ _, halfOf_fit _ _, sluFlags_eq _ _ _ _ _, rfl⟩

/-- The payload of an item that has data. -/
theorem State.answerBytes_some {s : State} {item index page : Byte} {d : List Byte} (h : s.itemData item index page = some d) :
    s.answerBytes item index page = [s.itemByte item page, index, 0] ++ d := by
  rw [State.answerBytes, h]

theorem State.answerBytes_none {s : State} {item index page : Byte} (h : s.itemData item index page = none) :
    s.answerBytes item index page = [s.itemByte item page, index, 3] := by
  rw [State.answerBytes, h]

/-- An item with page 0 only, answered. -/
theorem State.answered_page0 {s : State} {item index page : Byte} {d : List Byte}
    (hdata : s.itemData item index page ≠ none) (h : s.itemData item index page = onPage0 page d) :
    page = 0 ∧ s.answerBytes item index page = [s.itemByte item page, index, 0] ++ d := by
  have hp : page = 0 := not_not.1 fun hn => hdata (h.trans (onPage0_none.2 hn))
  exact ⟨hp, State.answerBytes_some (h.trans (if_pos hp))⟩

/-- An item with pages 0 and 1, answered. -/
theorem State.answered_pages {s : State} {item index page : Byte} {d0 d1 : List Byte}
    (hdata : s.itemData item index page ≠ none) (h : s.itemData item index page = onPages page d0 d1) :
    (page = 0 ∧ s.answerBytes item index page = [s.itemByte item page, index, 0] ++ d0) ∨
      (page = 1 ∧ s.answerBytes item index page = [s.itemByte item page, index, 0] ++ d1) := by
  have hp : ¬1 < page.toNat := fun hn => hdata (h.trans (onPages_none.2 hn))
  obtain rfl | rfl : page = 0 ∨ page = 1 := by bv_omega
  · exact .inl ⟨rfl, State.answerBytes_some h⟩
  · exact .inr ⟨rfl, State.answerBytes_some h⟩

/-- Data that a condition admits is there where there is any. -/
theorem admitted_of_data {c : Prop} [Decidable c] {d : Option (List Byte)} (h : (if c then d else none) ≠ none) : c :=
  by_contra fun hn => h (if_neg hn)

/-- Settles O52: the fields of each item, BAD_ITEM for the others, and no reply while a restart is pending. -/
theorem queryIsAnswered : Obligations.QueryIsAnswered := by
  intro s item index page h c hc hlive hon
  subst hc
  refine ⟨exec_query_pending item index page h, fun hpend => ⟨_, s.answerBytes item index page,
    exec_query_served item index page h hlive hpend hon, rfl, fun hfit => ?_, ?_, ?_, ?_⟩⟩
  · have hbyte : s.itemByte item page = BitVec.ofNat 8 (page.toNat * 16 + item.toNat) := if_pos hfit
    rw [← hbyte, State.answerBytes]
    cases s.itemData item index page <;> rfl
  · rw [State.answerBytes]
    cases s.itemData item index page <;> rfl
  · intro hbad
    rw [State.answerBytes_none ((s.itemData_none item index page).2 hbad)]
    exact ⟨rfl, rfl⟩
  · intro hgood
    have hdata : s.itemData item index page ≠ none := fun hn => hgood ((s.itemData_none item index page).1 hn)
    have hsome : (s.answerBytes item index page)[2]? = some 0 := by
      obtain ⟨d, hd⟩ := Option.ne_none_iff_exists'.1 hdata
      rw [State.answerBytes_some hd]
      rfl
    have hlit {n : Byte} (hi : item.toNat = n.toNat) : item = n := BitVec.eq_of_toNat_eq hi
    refine ⟨hsome, fun hi => ?_, fun hi => ?_, fun hi hp => ?_, fun hi hp => ?_, fun hi => ?_, fun hi => ?_, fun hi im him => ?_,
      fun hi => ?_, fun hi => ?_, fun hi => ?_⟩
    · obtain rfl := hlit (n := 1) hi
      obtain ⟨rfl, hl⟩ := State.answered_page0 hdata rfl
      have hitem := s.item1_holds (s.itemByte 1 0) index 0
      rw [timerMs_eq, timerMs_eq] at hitem
      rw [hl]
      exact ⟨rfl, hitem⟩
    · obtain rfl := hlit (n := 2) hi
      have hindex := admitted_of_data hdata
      rcases State.answered_pages hdata (if_pos hindex) with ⟨rfl, hl⟩ | ⟨rfl, hl⟩
      · rw [hl]
        exact (s.item2a_holds _ _ _ _).1
      · rw [hl]
        exact (s.item2b_holds _ _ _ _).1
    · obtain rfl := hlit (n := 2) hi
      subst hp
      have hd : s.itemData 2 index 0 = some (s.item2a index.toNat) := if_pos (admitted_of_data hdata)
      rw [State.answerBytes_some hd]
      exact (s.item2a_holds _ _ _ _).2
    · obtain rfl := hlit (n := 2) hi
      subst hp
      have hd : s.itemData 2 index 1 = some (s.item2b index.toNat) := if_pos (admitted_of_data hdata)
      rw [State.answerBytes_some hd]
      exact (s.item2b_holds _ _ _ _).2
    · obtain rfl := hlit (n := 3) hi
      rcases State.answered_pages hdata rfl with ⟨rfl, hl⟩ | ⟨rfl, hl⟩
      · rw [hl]
        exact s.item3_entries 0 _ _ _
      · rw [hl]
        exact s.item3_entries 2 _ _ _
    · obtain rfl := hlit (n := 4) hi
      rcases State.answered_pages hdata rfl with ⟨rfl, hl⟩ | ⟨rfl, hl⟩
      · rw [hl]
        obtain ⟨hlen, hfields⟩ := s.item4a_holds (s.itemByte 4 0) index 0
        exact ⟨hlen, fun _ => hfields, fun h => absurd h (by decide)⟩
      · rw [hl]
        obtain ⟨hlen, hfields⟩ := s.item4b_holds (s.itemByte 4 1) index 0
        exact ⟨hlen, fun h => absurd h (by decide), fun _ => hfields⟩
    · obtain rfl := hlit (n := 5) hi
      obtain ⟨rfl, hl⟩ := State.answered_page0 hdata (if_pos (admitted_of_data hdata))
      rw [hl, State.item5, him]
      rfl
    · obtain rfl := hlit (n := 6) hi
      obtain ⟨rfl, hl⟩ := State.answered_page0 hdata (if_neg fun hr => hdata (if_pos hr))
      rw [hl]
      exact s.item6_holds _ _ _
    · obtain rfl := hlit (n := 7) hi
      obtain ⟨rfl, hl⟩ := State.answered_page0 hdata rfl
      obtain ⟨hlen, hspeed, hstatus, hhold, hview, hvstat, hvhold, hcand⟩ := s.item7_holds (s.itemByte 7 0) index 0
      rw [timerMs_eq] at hhold hvhold
      rw [hl]
      refine ⟨hlen, hspeed, hstatus, hhold, hview, hvstat, hvhold, fun k q used hk => ?_⟩
      obtain ⟨a, b, n, known, hab, ha, hknown⟩ := hcand k q used hk
      obtain ⟨haddr, hpresent, hused, hfresh, hvalue⟩ := s.sentCandidate_holds a b n q known used
      rw [hab]
      have h9 : 9 + 4 * k = a.length + 1 := by omega
      have h10 : 10 + 4 * k = a.length + 2 := by omega
      rw [h9, h10, ← ha]
      exact ⟨haddr, hpresent, hused, fun h1 h2 => hfresh (hknown h1 h2), hvalue⟩
    · obtain rfl := hlit (n := 8) hi
      obtain ⟨rfl, hl⟩ := State.answered_page0 hdata rfl
      by_cases hr : s.role = .steer
      · rw [if_pos hr] at hl
        rw [hl]
        obtain ⟨hlen, hgain, hassist, hrunA, hrunB, hfields⟩ := s.item8Steer_holds (s.itemByte 8 0) index 0
        refine ⟨hlen.trans (if_pos hr).symm, fun h => absurd hr h, fun _ => ⟨hgain, hassist, hrunA, fun hb => ?_, fun hb => ?_, hfields⟩⟩
        · rw [hb] at hrunB
          exact hrunB
        · rw [if_neg (by simpa using hb)] at hrunB
          exact hrunB
      · rw [if_neg hr] at hl
        rw [hl]
        obtain ⟨hlen, hfields⟩ := s.item8Tilt_holds (s.itemByte 8 0) index 0
        exact ⟨hlen.trans (if_neg hr).symm, fun _ => hfields, fun h => absurd h hr⟩

end Sys2Proof.Machine
end

section
/-! SUPPORT. The image read: what a good and a bad image do, what the sources show, and the checks as inequalities (R139, R141,
R143, R172, R173). -/

namespace Sys2Proof.Machine

/-! ## The checks (R173) -/

theorem imageCrcGood_iff (im : Image) : imageCrcGood im = true ↔ crcBytes 0xFFFF im.toList = 0 := beq_iff_eq

theorem imageAddressGood_iff (im : Image) (straps : Addr) : imageAddressGood im straps = true ↔
    imgByte im 0 = 1 ∧ imgByte im 2 = straps.toNat ∧ straps.toNat ≤ 14 := by
  simp only [imageAddressGood, Bool.and_eq_true, beq_iff_eq, decide_eq_true_eq, and_assoc]

/-- The roster entry of the own address is byte 3 + address. -/
theorem imgRoster_get {im : Image} {a : Nat} (h : a ≤ 14) : (imgRoster im)[a]? = some (imgByte im (3 + a)) := by
  simp [imgRoster, show a < 15 by omega]

theorem imageRoleGood_iff {im : Image} (h : imgByte im 2 ≤ 14) : imageRoleGood im = true ↔
    (1 ≤ imgByte im 1 ∧ imgByte im 1 ≤ 3) ∧ imgByte im (3 + imgByte im 2) = imgByte im 1 := by
  rw [imageRoleGood, imgRoster_get h]
  simp only [Bool.and_eq_true, beq_iff_eq, decide_eq_true_eq, Option.some.injEq]

theorem imageRosterGood_iff (im : Image) : imageRosterGood im = true ↔
    (∀ n ∈ imgRoster im, n ≤ 6) ∧ (imgRoster im).count 1 = 1 ∧ (imgRoster im).count 2 ≤ 1 ∧ (imgRoster im).count 3 = 1 ∧
      (imgRoster im).count 5 ≤ 1 := by
  simp only [imageRosterGood, Bool.and_eq_true, beq_iff_eq, decide_eq_true_eq, List.all_eq_true, and_assoc]

theorem increasing_iff (l : List Nat) : increasing l = true ↔ l.Pairwise (· < ·) := by
  induction l with
  | nil => simp [increasing]
  | cons x l ih =>
    cases l with
    | nil => simp [increasing]
    | cons y l =>
      rw [increasing, Bool.and_eq_true, ih, decide_eq_true_iff]
      exact ⟨fun ⟨hxy, hl⟩ => List.pairwise_cons.2 ⟨fun z hz => (List.mem_cons.1 hz).elim (fun h => h ▸ hxy) fun hz =>
        hxy.trans (List.rel_of_pairwise_cons hl hz), hl⟩, fun h => ⟨List.rel_of_pairwise_cons h List.mem_cons_self, h.of_cons⟩⟩

theorem nonDecreasing_iff (l : List Nat) : nonDecreasing l = true ↔ l.Pairwise (· ≤ ·) := by
  induction l with
  | nil => simp [nonDecreasing]
  | cons x l ih =>
    cases l with
    | nil => simp [nonDecreasing]
    | cons y l =>
      rw [nonDecreasing, Bool.and_eq_true, ih, decide_eq_true_iff]
      exact ⟨fun ⟨hxy, hl⟩ => List.pairwise_cons.2 ⟨fun z hz => (List.mem_cons.1 hz).elim (fun h => h ▸ hxy) fun hz =>
        hxy.trans (List.rel_of_pairwise_cons hl hz), hl⟩, fun h => ⟨List.rel_of_pairwise_cons h List.mem_cons_self, h.of_cons⟩⟩

theorem tableGood_iff (l : List (Nat × Nat)) (x y : Nat) : tableGood l x y = true ↔
    (∀ q ∈ l, q.1 ≤ x ∧ q.2 ≤ y) ∧ l.Pairwise (fun a b => a.1 < b.1) := by
  rw [tableGood, Bool.and_eq_true, increasing_iff, List.pairwise_map]
  simp only [List.all_eq_true, Bool.and_eq_true, decide_eq_true_eq]

theorem paramTablesGood_iff (p : Params) : paramTablesGood p = true ↔
    ((∀ q ∈ p.curve, q.1 ≤ 450 ∧ q.2 ≤ 1000) ∧ p.curve.Pairwise (fun a b => a.1 < b.1)) ∧
    p.curve.Pairwise (fun a b => a.2 ≤ b.2) ∧
    ((∀ q ∈ p.lean, q.1 ≤ 1500 ∧ q.2 ≤ 4500) ∧ p.lean.Pairwise (fun a b => a.1 < b.1)) ∧
    p.lean.Pairwise (fun a b => a.2 ≤ b.2) ∧
    ((∀ q ∈ p.assist, q.1 ≤ 2500 ∧ q.2 ≤ 1023) ∧ p.assist.Pairwise (fun a b => a.1 < b.1)) := by
  simp only [paramTablesGood, Bool.and_eq_true, tableGood_iff, nonDecreasing_iff, List.pairwise_map, and_assoc]

theorem paramRangesGood_iff (p : Params) : paramRangesGood p = true ↔
    (∀ q ∈ paramRanges p, q.2.1 ≤ q.1 ∧ q.1 ≤ q.2.2) ∧ (p.p = 1 ∨ p.p = 2 ∨ p.p = 4) ∧ p.td1 ≤ 150 ∧ p.td2 ≤ 150 := by
  simp only [paramRangesGood, Bool.and_eq_true, Bool.or_eq_true, List.all_eq_true, decide_eq_true_eq, beq_iff_eq, and_assoc,
    or_assoc]

theorem imageDescriptorsGood_iff (im : Image) : imageDescriptorsGood im = true ↔
    (1 ≤ (paramsOf im).spdWidth ∧ (paramsOf im).spdWidth ≤ 32) ∧ imgBit im 176 6 = false ∧ (paramsOf im).spdShift ≤ 15 ∧
      imgByte im 182 / 2 % 64 = 0 := by
  simp only [imageDescriptorsGood, Bool.and_eq_true, Bool.not_eq_true', decide_eq_true_eq, beq_iff_eq, and_assoc]
  rfl

/-- An image is good when it passes each check, the checks as inequalities, the ranges of the parameters still as their list. -/
theorem imageGood_checks (im : Image) (straps : Addr) :
    let p := paramsOf im
    imageGood im straps = true ↔
      crcBytes 0xFFFF im.toList = 0 ∧ (imgByte im 0 = 1 ∧ imgByte im 2 = straps.toNat ∧ straps.toNat ≤ 14) ∧
      ((1 ≤ imgByte im 1 ∧ imgByte im 1 ≤ 3) ∧ imgByte im (3 + imgByte im 2) = imgByte im 1) ∧
      ((∀ n ∈ imgRoster im, n ≤ 6) ∧ (imgRoster im).count 1 = 1 ∧ (imgRoster im).count 2 ≤ 1 ∧ (imgRoster im).count 3 = 1 ∧
        (imgRoster im).count 5 ≤ 1) ∧
      (p.p = 1 ∨ p.p = 2 ∨ p.p = 4) ∧
      (((∀ q ∈ p.curve, q.1 ≤ 450 ∧ q.2 ≤ 1000) ∧ p.curve.Pairwise (fun a b => a.1 < b.1)) ∧
        p.curve.Pairwise (fun a b => a.2 ≤ b.2) ∧
        ((∀ q ∈ p.lean, q.1 ≤ 1500 ∧ q.2 ≤ 4500) ∧ p.lean.Pairwise (fun a b => a.1 < b.1)) ∧
        p.lean.Pairwise (fun a b => a.2 ≤ b.2) ∧
        ((∀ q ∈ p.assist, q.1 ≤ 2500 ∧ q.2 ≤ 1023) ∧ p.assist.Pairwise (fun a b => a.1 < b.1))) ∧
      (p.vFl < p.vFh ∧ p.vStand < p.vUnlock ∧ p.vUnlock < p.vFree ∧ p.phiMax + 100 ≤ p.phiStop ∧ p.phiStop ≤ 4999 ∧
        p.fresh < p.stale ∧ p.td1 < p.td2) ∧
      p.td1 ≤ 150 ∧ p.td2 ≤ 150 ∧ (∀ q ∈ paramRanges p, q.2.1 ≤ q.1 ∧ q.1 ≤ q.2.2) ∧
      (1 ≤ p.spdWidth ∧ p.spdWidth ≤ 32) ∧ p.spdShift ≤ 15 ∧ imgBit im 176 6 = false ∧ imgByte im 182 / 2 % 64 = 0 := by
  intro p
  rw [imageGood_iff, imageCrcGood_iff, imageAddressGood_iff, imageRosterGood_iff, paramTablesGood_iff, paramOrdersGood_iff,
    paramRangesGood_iff, imageDescriptorsGood_iff]
  refine and_congr_right fun _ => and_congr_right fun haddr => ?_
  obtain ⟨_, hown, hmax⟩ := haddr
  rw [imageRoleGood_iff (hown.le.trans hmax)]
  refine and_congr_right fun _ => and_congr_right fun _ => ⟨?_, ?_⟩
  · rintro ⟨htables, horders, ⟨hranges, hcode, h1, h2⟩, hwidth, hbit, hshift, hzero⟩
    exact ⟨hcode, htables, horders, h1, h2, hranges, hwidth, hshift, hbit, hzero⟩
  · rintro ⟨hcode, htables, horders, h1, h2, hranges, hwidth, hshift, hbit, hzero⟩
    exact ⟨htables, horders, ⟨hranges, hcode, h1, h2⟩, hwidth, hbit, hshift, hzero⟩

/-! ## The sources (R139, R141) -/

/-- What each source shows. -/
theorem State.sources_iff (s : State) :
    (s.sourcePresent .configBad = true ↔ False) ∧
    (s.sourcePresent .overlean = true ↔ s.role.isTilt = true ∧ s.le.overReported = true) ∧
    (s.sourcePresent .haltTaken = true ↔ s.nsc.latches.has .haltTaken = true) ∧
    (s.sourcePresent .sensorFailed = true ↔ s.channel1.state = .failed ∨ s.channel2.state = .failed) ∧
    (s.sourcePresent .speedLost = true ↔ s.pvu.speedStatus = .lost) ∧
    (s.sourcePresent .brakeStuck = true ↔ s.role.isTilt = true ∧ s.bcu.state = .stuck) ∧
    (s.role = .steer → (s.sourcePresent .voteOutlier = true ↔ s.slu.outlier = true)) ∧
    (s.role ≠ .steer → (s.sourcePresent .voteOutlier = true ↔ s.tsu.outlier = true)) ∧
    (s.sourcePresent .bridgeFault = true ↔ s.role.isTilt = true ∧ s.pins.bfltLow = true) ∧
    (s.sourcePresent .disagree = true ↔ s.role.isTilt = true ∧ s.tsu.disagree = true) ∧
    (s.sourcePresent .partnerAbsent = true ↔ s.role.isTilt = true ∧ s.tsu.partnerAbsent = true) ∧
    (s.sourcePresent .inputHeld = true ↔ s.channel1.state = .held ∨ s.channel2.state = .held ∨ s.pvu.speedStatus = .held ∨
      s.pvu.speedStatus = .single ∨ s.pvu.viewStatus = .held ∨ s.pvu.viewStatus = .ramping) ∧
    (s.sourcePresent .linkConflict = true ↔ s.nsc.latches.has .linkConflict = true) ∧
    (s.sourcePresent .queueOverrun = true ↔ s.nsc.latches.has .queueOverrun = true) ∧
    (s.sourcePresent .overrideMismatch = true ↔ s.le.mismatch = 50) := by
  refine ⟨by simp [State.sourcePresent], by simp [State.sourcePresent], Iff.rfl, by simp [State.sourcePresent], beq_iff_eq,
    by simp [State.sourcePresent], fun h => iff_of_eq (congrArg (· = true) (if_pos h)),
    fun h => iff_of_eq (congrArg (· = true) (if_neg h)), by simp [State.sourcePresent], by simp [State.sourcePresent],
    by simp [State.sourcePresent], inputHeld_iff _ _ _ _, Iff.rfl, Iff.rfl, beq_iff_eq⟩

/-- The sources read the same after the present set has been taken from them: of the latches they read only those that stay. -/
theorem State.takeSources_sourcePresent (s : State) (c : Condition) : s.takeSources.sourcePresent c = s.sourcePresent c := by
  have hlatch {d : Condition} (hd : s.sourcePresent d = s.nsc.latches.has d) :
      s.takeSources.nsc.latches.has d = s.nsc.latches.has d := by
    refine (CondSet.has_ofPred _ d).trans ?_
    rw [hd]
    cases s.nsc.latches.has d <;> simp
  cases c
  case haltTaken => exact hlatch rfl
  case linkConflict => exact hlatch rfl
  case queueOverrun => exact hlatch rfl
  all_goals rfl

/-! ## The image read (R172) -/

/-- Settles O4: a good image starts the node, a bad one halts it; then the sources and the checks themselves. -/
theorem imageReadStartsOrHaltsTheNode : Obligations.ImageReadStartsOrHaltsTheNode := by
  refine ⟨fun im s hstart hreading hgood => ?_, fun im s hstart hreading hbad hnew => ?_, State.sources_iff, fun im straps => ?_⟩
  · let u := (s.keepImage im .good).loadUnits im
    have hexec : exec (.imageReadComplete im) s = .next (u.takeSources.enterNode .listen) :=
      congrArg Host.Outcome.next ((if_pos ⟨hstart, hreading⟩).trans (if_pos hgood))
    have hsource (c : Condition) : (u.takeSources.enterNode .listen).sourcePresent c = u.sourcePresent c :=
      u.takeSources_sourcePresent c
    refine ⟨_, hexec, rfl, rfl, rfl, rfl, rfl, rfl, rfl, rfl, rfl, fun hr => ?_, fun hr => ?_, fun c => ?_, rfl, fun c => ?_, ?_,
      rfl, rfl⟩
    · exact if_pos hr
    · exact if_neg hr
    · rw [hsource]
      exact CondSet.has_ofPred _ c
    · rw [hsource]
      exact CondSet.has_ofPred _ c
    · show s.handed ++ u.takeSources.nodeNotices s.nsc.node .listen = _
      rw [hstart]
      rfl
  · let u := s.keepImage im .bad
    have hne : ¬imageGood im s.cl.ownAddr = true := fun h => Bool.false_ne_true (hbad.symm.trans h)
    have hexec : exec (.imageReadComplete im) s = .next (s.imageRefused im) :=
      congrArg Host.Outcome.next ((if_pos ⟨hstart, hreading⟩).trans (if_neg hne))
    rw [State.imageRefused, State.report_new (s := u) hnew,
      State.onPresent_configBad (s := u.setNsc (u.nsc.putCondition .configBad true)) hstart] at hexec
    refine ⟨_, hexec, rfl, rfl, ?_, fun c hc => ?_, rfl, rfl, rfl, ?_⟩
    · exact (Nsc.putCondition_present_has _ _ _ _).trans (if_pos rfl)
    · exact (Nsc.putCondition_present_has _ _ _ _).trans (if_neg hc)
    · rw [← hstart]
      rfl
  · refine (imageGood_checks im straps).trans ?_
    simp only [paramRanges, List.forall_mem_append, List.forall_mem_cons, List.not_mem_nil, false_implies, forall_const,
      imgRoster, Nat.zero_le, true_and, and_true, and_assoc]

end Sys2Proof.Machine
end

section
/-! SUPPORT. The torque share unit: the node-state changes it takes, and the torques of an arrival (R45 to R58, R64). -/

namespace Sys2Proof.Machine

/-! ## An arrival takes the waiting changes first (R64) -/

/-- The join ramp that the changes waiting for the TSU leave. -/
def State.waitingRamp (s : State) : JoinRamp :=
  (s.handed.filterMap tsuChange).foldl (fun x q => rampChange q.1 q.2 s.clock x) s.tsu.ramp

/-- The state in which the TSU makes an arrival. -/
def State.readyTsu (s : State) (r : TargetRecord) : State := (s.taken (.newTargetArrivalTsu r)).takeTsuChanges

theorem State.readyTsu_ramp (s : State) (r : TargetRecord) : (s.readyTsu r).tsu.ramp = s.waitingRamp := by
  show ((s.taken (.newTargetArrivalTsu r)).waitingChanges tsuChange).foldl _ _ = _
  rw [State.waitingChanges_taken s tsuChange (.newTargetArrivalTsu r) rfl]
  rfl

/-- An arrival at the TSU, as one update of the state. -/
theorem exec_newTargetArrivalTsu {s : State} (r : TargetRecord) (htilt : s.role.isTilt = true) (hlive : s.nsc.node.live = true) :
    exec (.newTargetArrivalTsu r) s = .next { s with
      tsu := ((s.readyTsu r).tsuStep r).1
      drive := s.driveOf (dutyOf ((s.readyTsu r).tsuStep r).1.tauO s.prm.tRated)
      pvu := { s.pvu with table := ((s.readyTsu r).tsuArrival r).pvu.table }
      nsc := { s.nsc with sendCount := ((s.readyTsu r).tsuArrival r).nsc.sendCount }
      bi := ((s.readyTsu r).tsuArrival r).bi
      handed := (s.handed.erase (.newTargetArrivalTsu r)).filter (fun i => (tsuChange i).isNone) ++
        ((s.readyTsu r).tsuStep r).2.map (fun q => .conditionReport q.1 q.2)
      free := ((s.readyTsu r).tsuArrival r).free } := by
  have hexec : exec (.newTargetArrivalTsu r) s = .next ((s.readyTsu r).tsuArrival r) :=
    congrArg Host.Outcome.next (if_pos ((Bool.and_eq_true _ _).mpr ⟨htilt, hlive⟩))
  rw [hexec, State.tsuArrival_eq]
  rfl

/-! ## The weights (R48 to R51) -/

theorem State.thermalCap_failed {s : State} (h : s.mu.records.temp.state = .failed ∨ s.mu.records.temp.lastGood = none) :
    s.thermalCap = 50 := by
  unfold State.thermalCap
  dsimp only
  rcases h with h | h
  · rw [h]
  · rw [h]
    cases s.mu.records.temp.state <;> rfl

/-- The thermal weight of a temperature that is known. -/
theorem State.thermalCap_known {s : State} {T : Int} (hs : s.mu.records.temp.state ≠ .failed)
    (hT : s.mu.records.temp.lastGood = some T) : s.thermalCap =
      if T ≤ s.prm.td1 then 100 else if s.prm.td2 ≤ T then 0
      else ((100 * (s.prm.td2 - T)).tdiv (s.prm.td2 - s.prm.td1)).toNat := by
  unfold State.thermalCap
  dsimp only
  rw [hT]
  revert hs
  cases s.mu.records.temp.state <;> simp

theorem State.thermalCap_between {s : State} {T : Int} (hs : s.mu.records.temp.state ≠ .failed)
    (hT : s.mu.records.temp.lastGood = some T) (h1 : s.prm.td1 < T) (h2 : T < s.prm.td2) :
    (s.thermalCap : Int) = (100 * (s.prm.td2 - T)).tdiv (s.prm.td2 - s.prm.td1) := by
  rw [State.thermalCap_known hs hT, if_neg (not_le.2 h1), if_neg (not_le.2 h2)]
  exact Int.toNat_of_nonneg (Int.tdiv_nonneg (by omega) (by omega))

/-- The join weight by the ramp, and the ramp after the arrival (R49). -/
theorem State.joinCap_idle {s : State} (h : s.tsu.ramp = .idle) : s.joinCap = 0 ∧ s.rampAfter = .idle := by
  unfold State.joinCap State.rampAfter
  rw [h]
  exact ⟨rfl, rfl⟩

theorem State.joinCap_complete {s : State} (h : s.tsu.ramp = .complete) : s.joinCap = 100 ∧ s.rampAfter = .complete := by
  unfold State.joinCap State.rampAfter
  rw [h]
  exact ⟨rfl, rfl⟩

theorem State.joinCap_running {s : State} {st : Stamp} (h : s.tsu.ramp = .running st) :
    s.joinCap = min 100 (100 * age s.clock st / (s.prm.tJoin * 1000)) ∧
      s.rampAfter = if s.joinCap = 100 then .complete else .running st := by
  unfold State.rampAfter
  rw [h]
  refine ⟨?_, rfl⟩
  unfold State.joinCap
  rw [h]

/-- The weight of a partner that is heard and running. -/
theorem State.partnerWeight_heard {s : State} {c : Contrib} {f : Freshness} (h : s.partnerContrib = some (c, f))
    (hf : f.heard = true) (hr : c.running = true) : s.partnerWeight = c.w.toNat := by
  unfold State.partnerWeight
  rw [h]
  exact if_pos ((Bool.and_eq_true _ _).mpr ⟨hf, hr⟩)

theorem State.partnerWeight_unheard {s : State}
    (h : ∀ c f, s.partnerContrib = some (c, f) → f.heard = true → c.running = false) : s.partnerWeight = 0 := by
  unfold State.partnerWeight
  split
  next c f hc =>
    refine if_neg fun hb => ?_
    obtain ⟨hf, hr⟩ := (Bool.and_eq_true _ _).mp hb
    exact Bool.false_ne_true ((h c f hc hf).symm.trans hr)
  next => rfl

/-- The demand before its clamp, where one of its records has no value. -/
theorem State.demandRaw_none {s : State} (r : TargetRecord)
    (h : s.mu.records.shaft.lastGood = none ∨ s.mu.records.rate.lastGood = none) : s.demandRaw r = 0 := by
  unfold State.demandRaw
  rcases h with h | h <;> rw [h]
  cases s.mu.records.shaft.lastGood <;> rfl

/-! ## The share and the release (R54 to R56) -/

theorem shareLimit_le_full (w tRated : Nat) (d : Bool) : shareLimit w tRated d ≤ w * tRated / 100 := by
  cases d
  · exact le_rfl
  · exact Nat.div_le_self _ _

theorem factorAfter_closing {b : BrakeState} (h : b = .engaging ∨ b = .engaged) (p f : Nat) : factorAfter p b f = f - 10 * p := by
  rcases h with rfl | rfl <;> rfl

theorem factorAfter_opening {b : BrakeState} (h1 : b ≠ .engaging) (h2 : b ≠ .engaged) (p f : Nat) :
    factorAfter p b f = min 1000 (f + 20 * p) := by
  cases b <;> first | rfl | contradiction

/-- The drive of an arrival. -/
theorem State.driveOf_running {s : State} (h : s.nsc.node.running = true) (d : Int) : s.driveOf d = ⟨true, some d⟩ := if_pos h

theorem State.driveOf_low {s : State} (h : s.nsc.node.running = false) (d : Int) : s.driveOf d = ⟨false, none⟩ :=
  if_neg fun hr => Bool.false_ne_true (h.symm.trans hr)

/-- Settles O19: the nine steps of an arrival, each read off its definition, in the state whose ramp the waiting changes give. -/
theorem tsuArrivalFormsShareAndOutput : Obligations.TsuArrivalFormsShareAndOutput := by
  intro s r htilt hlive
  let u := s.readyTsu r
  let x := (u.tsuStep r).1
  have hramp : u.tsu.ramp = s.waitingRamp := s.readyTsu_ramp r
  have hjoin : x.wJoin = u.joinCap ∧ x.ramp = u.rampAfter := ⟨rfl, rfl⟩
  have hlimit : x.share.natAbs ≤ shareLimit x.w s.prm.tRated x.disagree := clampMag_natAbs _ _
  refine ⟨_, s.demandRaw r, exec_newTargetArrivalTsu r htilt hlive, fun phi om h1 h2 => ?_, State.demandRaw_none r, rfl,
    State.thermalCap_failed (s := s), fun T hs hT => ⟨fun h1 => ?_, fun h1 h2 => ?_, State.thermalCap_between hs hT⟩, ?_,
    fun h => if_pos h, fun h => ?_, fun c f => State.partnerWeight_heard (s := s), State.partnerWeight_unheard (s := s), rfl, rfl,
    hlimit.trans (shareLimit_le_full _ _ _), fun h => ?_, fun h => ?_, ?_, fun h => factorAfter_closing h _ _,
    fun h1 h2 => factorAfter_opening h1 h2 _ _, rfl, fun h => State.driveOf_running h _, fun h => State.driveOf_low h _,
    fun i hi => ?_, rfl⟩
  · rw [State.demandRaw, h1, h2]
  · exact (State.thermalCap_known hs hT).trans (if_pos h1)
  · exact (State.thermalCap_known hs hT).trans ((if_neg (not_le.2 h1)).trans (if_pos h2))
  · exact ⟨fun h => State.joinCap_idle (hramp.trans h), fun h => State.joinCap_complete (hramp.trans h),
      fun st h => State.joinCap_running (hramp.trans h)⟩
  · exact if_neg fun hr => Bool.false_ne_true (h.symm.trans hr)
  · rw [show x.disagree = true from h] at hlimit
    exact hlimit.trans (Nat.div_div_eq_div_mul _ _ _).le
  · have hzero := hlimit.trans (shareLimit_le_full _ _ _)
    rw [show x.w = 0 from h, Nat.zero_mul, Nat.zero_div] at hzero
    exact Int.natAbs_eq_zero.1 (Nat.le_zero.1 hzero)
  · exact (Bool.or_eq_true _ _).to_iff.trans (or_congr bne_iff_ne bne_iff_ne)
  · rcases List.mem_append.1 hi with hi | hi
    · obtain ⟨_, hnone⟩ := List.mem_filter.1 hi
      exact Option.isNone_iff_eq_none.1 hnone
    · obtain ⟨_, _, rfl⟩ := List.mem_map.1 hi
      rfl

end Sys2Proof.Machine
end

section
/-! SUPPORT. The torque share unit: its node-state changes, and the counts and reports of an arrival (R49, R52, R58, R60 to R64). -/

namespace Sys2Proof.Machine

/-! ## The node-state change (R49, R58) -/

theorem driveChange_low {old new : NodeState} (h1 : old.running = true) (h2 : new.running = false) (d : Drive) :
    driveChange old new d = ⟨false, none⟩ := by
  unfold driveChange
  rw [h1, h2]
  rfl

theorem driveChange_same {old new : NodeState} (h : old.running = false ∨ new.running = true) (d : Drive) :
    driveChange old new d = d := by
  unfold driveChange
  rcases h with h | h <;> rw [h]
  · rfl
  · rw [Bool.not_true, Bool.and_false]
    rfl

theorem rampChange_away {old new : NodeState} (h1 : old = .active ∨ old = .degraded ∨ old = .dormant)
    (h2 : new = .free ∨ new = .clamped) (now : Stamp) (x : JoinRamp) : rampChange old new now x = .idle := by
  rcases h1 with rfl | rfl | rfl <;> rcases h2 with rfl | rfl <;> rfl

/-- The ramp that a single waiting change leaves. -/
theorem State.waitingRamp_one {s : State} {old new : NodeState} {l : List Instr} (h : s.handed = .nodeStateChangeTsu old new :: l)
    (hl : ∀ i ∈ l, tsuChange i = none) : s.waitingRamp = rampChange old new s.clock s.tsu.ramp := by
  rw [State.waitingRamp, h, List.filterMap_cons_some (f := tsuChange) (b := (old, new)) rfl, List.filterMap_eq_nil_iff.mpr hl]
  rfl

/-- Settles O22: the ramp and the drive by the passage, and an arrival that finds the change waiting. -/
theorem tsuFollowsTheNodeState : Obligations.TsuFollowsTheNodeState := by
  refine ⟨fun s old new htilt => ?_, fun s r l old htilt hs hl => ⟨fun ho hn => ?_, fun ho hn => ?_⟩⟩
  · have hexec : exec (.nodeStateChangeTsu old new) s = .next { s with
        tsu := { s.tsu with ramp := rampChange old new s.clock s.tsu.ramp }
        drive := driveChange old new s.drive
        handed := s.handed.erase (.nodeStateChangeTsu old new) } := congrArg Host.Outcome.next (if_pos htilt)
    refine ⟨_, hexec, ?_, ?_, ?_, ?_, ?_, fun h1 h2 => rampChange_away h1 h2 _ _, fun h1 h2 => driveChange_low h1 h2 _,
      fun h => driveChange_same h _, rfl⟩
    all_goals
      rintro rfl rfl
      rfl
  · subst ho
    have hlive : s.nsc.node.live = true := by rw [hn]; rfl
    have hrunning : s.nsc.node.running = false := by rw [hn]; rfl
    have hramp : (s.readyTsu r).tsu.ramp = .idle := by
      rw [s.readyTsu_ramp, State.waitingRamp_one hs hl, hn]
      rfl
    obtain ⟨hcap, hafter⟩ := State.joinCap_idle hramp
    exact ⟨_, exec_newTargetArrivalTsu r htilt hlive, hafter, hcap, if_neg fun h => Bool.false_ne_true (hrunning.symm.trans h),
      State.driveOf_low hrunning _⟩
  · subst ho
    have hlive : s.nsc.node.live = true := by rw [hn]; rfl
    have hrunning : s.nsc.node.running = true := by rw [hn]; rfl
    have hramp : (s.readyTsu r).tsu.ramp = .running s.clock := by
      rw [s.readyTsu_ramp, State.waitingRamp_one hs hl, hn]
      rfl
    obtain ⟨hcap, hafter⟩ := State.joinCap_running hramp
    have hage : age (s.readyTsu r).clock s.clock = 0 := by
      show (s.clock - s.clock).toNat = 0
      rw [BitVec.sub_self]
      rfl
    rw [hage, Nat.mul_zero, Nat.zero_div, Nat.min_zero] at hcap
    refine ⟨_, exec_newTargetArrivalTsu r htilt hlive, ?_, hcap, congrArg Drive.dren (State.driveOf_running hrunning _)⟩
    exact hafter.trans (if_neg (by rw [hcap]; decide))

/-! ## The vote (R62, R63) -/

theorem voteStep_holds {test : Bool} (h : test = true) (n run : Nat) (o : Bool) :
    (voteStep n test run o).1 = min (run + 1) n ∧ ((voteStep n test run o).1 ≠ n → (voteStep n test run o).2.1 = o) ∧
      ((voteStep n test run o).1 = n → (voteStep n test run o).2.1 = true) := by
  subst h
  by_cases hn : min (run + 1) n = n <;> cases o <;> simp [voteStep, hn]

theorem voteStep_fails {test : Bool} (h : test = false) (n run : Nat) (o : Bool) :
    (voteStep n test run o).1 = 0 ∧ (voteStep n test run o).2.1 = false := by
  subst h
  exact ⟨rfl, rfl⟩

/-- The vote reports a change of its flag and nothing else. -/
theorem voteStep_report (n : Nat) (test : Bool) (run : Nat) (o : Bool) : (voteStep n test run o).2.2 =
    if (voteStep n test run o).2.1 = o then [] else [(.voteOutlier, (voteStep n test run o).2.1)] := by
  cases test
  · cases o <;> rfl
  · by_cases h : min (run + 1) n = n <;> cases o <;> simp [voteStep, h]

/-- The target of a peer that votes. -/
theorem State.voterTarget_iff {s : State} {a : Nat} {x : Int} : s.voterTarget a = some x ↔
    ∃ c, s.contribAt a = some (c, .fresh) ∧ c.running = true ∧ c.phiT.toInt = x := by
  simp only [State.voterTarget, Option.bind_eq_some_iff, Option.ite_none_right_eq_some, Option.some.injEq, Prod.exists]
  constructor
  · rintro ⟨c, f, hc, ⟨hf, hr⟩, hx⟩
    exact ⟨c, by rw [hc, show f = _ from hf], hr, hx⟩
  · rintro ⟨c, hc, hr, hx⟩
    exact ⟨c, .fresh, hc, ⟨rfl, hr⟩, hx⟩

/-- The outlier test (R62). -/
theorem State.outlierTest_iff (s : State) (x : Int) : s.outlierTest x = true ↔ s.nsc.node.running = true ∧
    ∃ p q a b, s.peers = [p, q] ∧ s.contribAt p = some (a, .fresh) ∧ a.running = true ∧ s.contribAt q = some (b, .fresh) ∧
      b.running = true ∧ s.prm.voteTol < (x - a.phiT.toInt).natAbs ∧ s.prm.voteTol < (x - b.phiT.toInt).natAbs ∧
      (a.phiT.toInt - b.phiT.toInt).natAbs ≤ s.prm.voteTol := by
  unfold State.outlierTest
  rw [Bool.and_eq_true]
  refine and_congr_right fun _ => ⟨fun h => ?_, ?_⟩
  · split at h
    next y z hyz =>
      obtain ⟨p, l, hl, hp, hrest⟩ := List.map_eq_cons_iff.1 hyz
      obtain ⟨q, l', hl', hq, hnil⟩ := List.map_eq_cons_iff.1 hrest
      rw [List.map_eq_nil_iff] at hnil
      obtain ⟨a, ha, hra, rfl⟩ := State.voterTarget_iff.1 hp
      obtain ⟨b, hb, hrb, rfl⟩ := State.voterTarget_iff.1 hq
      simp only [Bool.and_eq_true, decide_eq_true_eq] at h
      obtain ⟨⟨h1, h2⟩, h3⟩ := h
      exact ⟨p, q, a, b, by rw [hl, hl', hnil], ha, hra, hb, hrb, h1, h2, h3⟩
    next => exact absurd h Bool.false_ne_true
  · rintro ⟨p, q, a, b, hpeers, ha, hra, hb, hrb, h1, h2, h3⟩
    rw [hpeers, List.map_cons, List.map_cons, State.voterTarget_iff.2 ⟨a, ha, hra, rfl⟩, State.voterTarget_iff.2 ⟨b, hb, hrb, rfl⟩]
    simp only [Bool.and_eq_true, decide_eq_true_eq, List.map_nil]
    exact ⟨⟨h1, h2⟩, h3⟩

/-! ## DISAGREE (R60) -/

/-- The comparison with a FRESH partner that runs. -/
theorem State.comparison_made {s : State} {c : Contrib} (hr : s.nsc.node.running = true)
    (hp : s.partnerContrib = some (c, .fresh)) (hc : c.running = true) (tau : Int) :
    s.comparison tau = some (decide (s.prm.tauTol < (tau - c.tauD.toInt).natAbs)) := by
  unfold State.comparison
  rw [if_pos hr, hp]
  exact if_pos ⟨rfl, hc⟩

/-- No comparison is made out of running, and with no FRESH partner that runs. -/
theorem State.comparison_none {s : State}
    (h : s.nsc.node.running = false ∨ ∀ c, s.partnerContrib = some (c, .fresh) → c.running = false) (tau : Int) :
    s.comparison tau = none := by
  unfold State.comparison
  by_cases hr : s.nsc.node.running = true
  · rw [if_pos hr]
    split
    next c f hc =>
      refine if_neg fun hb => ?_
      obtain ⟨hf, hrun⟩ := hb
      subst hf
      have hno := h.resolve_left fun hf => Bool.false_ne_true (hf.symm.trans hr)
      exact Bool.false_ne_true ((hno c hc).symm.trans hrun)
    next => rfl
  · exact if_neg hr

/-- DISAGREE and its runs at a comparison, by whether it disagrees and whether DISAGREE is present. -/
theorem disagreeStep_holds (n a b : Nat) :
    ((n ≤ a + 1 → disagreeStep n (some true) false a b = (true, n, 0)) ∧
      (a + 1 < n → disagreeStep n (some true) false a b = (false, a + 1, b))) ∧
    disagreeStep n (some false) false a b = (false, 0, b) ∧
    ((n ≤ b + 1 → disagreeStep n (some false) true a b = (false, 0, 0)) ∧
      (b + 1 < n → disagreeStep n (some false) true a b = (true, a, b + 1))) ∧
    disagreeStep n (some true) true a b = (true, a, 0) :=
  ⟨⟨fun h => if_pos h, fun h => if_neg (Nat.not_le.2 h)⟩, rfl, ⟨fun h => if_pos h, fun h => if_neg (Nat.not_le.2 h)⟩, rfl⟩

/-! ## The reports (R52, R60, R63) -/

/-- The report of a flag, as it is handed to the NSC. -/
def handedReport (c : Condition) (before after : Bool) : List Instr := if after = before then [] else [.conditionReport c after]

theorem map_report (c : Condition) (before after : Bool) :
    (if after != before then [(c, after)] else [] : List Report).map (fun q => Instr.conditionReport q.1 q.2) =
      handedReport c before after := by
  cases before <;> cases after <;> rfl

theorem map_voteReport (n : Nat) (test : Bool) (run : Nat) (o : Bool) :
    (voteStep n test run o).2.2.map (fun q => Instr.conditionReport q.1 q.2) =
      handedReport .voteOutlier o (voteStep n test run o).2.1 := by
  rw [voteStep_report, handedReport]
  split <;> rfl

/-- The reports of an arrival at the TSU, in the order of the steps. -/
theorem State.tsuReports_map (u : State) (r : TargetRecord) :
    (u.tsuStep r).2.map (fun q => Instr.conditionReport q.1 q.2) =
      handedReport .partnerAbsent u.tsu.partnerAbsent (u.tsuStep r).1.partnerAbsent ++
        handedReport .disagree u.tsu.disagree (u.tsuStep r).1.disagree ++
        handedReport .voteOutlier u.tsu.outlier (u.tsuStep r).1.outlier := by
  show List.map _ (_ ++ _ ++ _) = _
  rw [List.map_append, List.map_append, map_report, map_report, map_voteReport]
  rfl

/-- When the partner is absent (R52). -/
theorem State.partnerAbsentNow_iff (s : State) : s.partnerAbsentNow = true ↔ ∃ a, s.partner = some a ∧
    ∀ c f, s.contribAt a = some (c, f) → f.heard = true → c.running = false ∧ c.nodeState ≠ 6 := by
  unfold State.partnerAbsentNow
  cases hp : s.partner
  case none => simp
  case some a =>
    simp only [Option.some.injEq, exists_eq_left']
    cases hc : s.contribAt a
    case none => simp
    case some q =>
      obtain ⟨c, f⟩ := q
      cases hf : f.heard <;> simp [hf]

/-- Settles O20: the three counts by the comparison and the test of the arrival, and the reports of the flags that change. -/
theorem tsuArrivalCountsDisagreeAndVote : Obligations.TsuArrivalCountsDisagreeAndVote := by
  refine ⟨fun s r htilt hlive => ?_, State.outlierTest_iff⟩
  let u := s.readyTsu r
  let x := (u.tsuStep r).1
  have hruns : (x.disagree, x.disagreeRun, x.agreeRun) =
      disagreeStep s.prm.nX (s.comparison x.tauD) s.tsu.disagree s.tsu.disagreeRun s.tsu.agreeRun := rfl
  refine ⟨_, exec_newTargetArrivalTsu r htilt hlive, fun c hr hp hc => ?_, fun h => ?_,
    fun h => voteStep_holds h _ _ _, fun h => voteStep_fails h _ _ _, ?_, s.partnerAbsentNow_iff⟩
  · rw [State.comparison_made hr hp hc] at hruns
    obtain ⟨⟨hcome, hcount⟩, hagree, ⟨hgo, hwait⟩, hstay⟩ := disagreeStep_holds s.prm.nX s.tsu.disagreeRun s.tsu.agreeRun
    refine ⟨fun hd hf => ⟨fun hn => ?_, fun hn => ?_⟩, fun hd hf => ?_, fun hd hf => ⟨fun hn => ?_, fun hn => ?_⟩, fun hd hf => ?_⟩
    · rw [decide_eq_true hd, hf, hcome hn] at hruns
      exact ⟨congrArg (·.1) hruns, congrArg (·.2.1) hruns, congrArg (·.2.2) hruns⟩
    · rw [decide_eq_true hd, hf, hcount hn] at hruns
      exact ⟨congrArg (·.1) hruns, congrArg (·.2.1) hruns⟩
    · rw [decide_eq_false (not_lt.2 hd), hf, hagree] at hruns
      exact ⟨congrArg (·.1) hruns, congrArg (·.2.1) hruns⟩
    · rw [decide_eq_false (not_lt.2 hd), hf, hgo hn] at hruns
      exact ⟨congrArg (·.1) hruns, congrArg (·.2.1) hruns, congrArg (·.2.2) hruns⟩
    · rw [decide_eq_false (not_lt.2 hd), hf, hwait hn] at hruns
      exact ⟨congrArg (·.1) hruns, congrArg (·.2.2) hruns⟩
    · rw [decide_eq_true hd, hf, hstay] at hruns
      exact ⟨congrArg (·.1) hruns, congrArg (·.2.2) hruns⟩
  · rw [State.comparison_none h] at hruns
    exact ⟨congrArg (·.1) hruns, congrArg (·.2.1) hruns, congrArg (·.2.2) hruns⟩
  · exact congrArg ((s.handed.erase (.newTargetArrivalTsu r)).filter (fun i => (tsuChange i).isNone) ++ ·) (u.tsuReports_map r)

end Sys2Proof.Machine
end

section
/-! SUPPORT. The steer law unit: the torque of an arrival, the node-state change and the RIDER fill (R85 to R98). -/

namespace Sys2Proof.Machine

/-! ## An arrival takes the waiting changes first (R98) -/

/-- The state in which the SLU makes an arrival. -/
def State.readySlu (s : State) (r : TargetRecord) : State := (s.taken (.newTargetArrivalSlu r)).takeSluChanges

/-- An arrival at the SLU, as one update of the state. -/
theorem exec_newTargetArrivalSlu {s : State} (r : TargetRecord) (hsteer : s.role = .steer) (hlive : s.nsc.node.live = true) :
    exec (.newTargetArrivalSlu r) s = .next { s with
      slu := (s.sluStep r).1
      drive := s.driveOf (dutyOf (s.sluStep r).1.tauS s.prm.tauSMax)
      pvu := { s.pvu with table := ((s.readySlu r).sluArrival r).pvu.table }
      nsc := { s.nsc with sendCount := ((s.readySlu r).sluArrival r).nsc.sendCount }
      bi := ((s.readySlu r).sluArrival r).bi
      handed := (s.handed.erase (.newTargetArrivalSlu r)).filter (fun i => (sluChange i).isNone) ++
        (s.sluStep r).2.map (fun q => .conditionReport q.1 q.2)
      free := ((s.readySlu r).sluArrival r).free } := by
  have hexec : exec (.newTargetArrivalSlu r) s = .next ((s.readySlu r).sluArrival r) :=
    congrArg Host.Outcome.next (if_pos ⟨hsteer, hlive⟩)
  rw [hexec, State.sluArrival_eq]
  rfl

/-! ## The usable rows (R87, R88) -/

theorem State.usableRow_iff {s : State} {k : Role} {c : Contrib} :
    s.usableRow k = some c ↔ s.contribOf k = some (c, .fresh) ∧ c.running = true := by
  simp only [State.usableRow, Option.bind_eq_some_iff, Option.ite_none_right_eq_some, Option.some.injEq, Prod.exists]
  constructor
  · rintro ⟨d, f, hd, ⟨hf, hr⟩, rfl⟩
    exact ⟨by rw [hd, show f = _ from hf], hr⟩
  · rintro ⟨hc, hr⟩
    exact ⟨c, .fresh, hc, ⟨rfl, hr⟩, rfl⟩

theorem State.usableRow_none {s : State} {k : Role} (h : ∀ c, ¬(s.contribOf k = some (c, .fresh) ∧ c.running = true)) :
    s.usableRow k = none :=
  Option.eq_none_iff_forall_ne_some.2 fun c hc => h c (State.usableRow_iff.1 hc)

theorem State.usableRow_isSome {s : State} {k : Role} :
    (s.usableRow k).isSome = true ↔ ∃ c, s.contribOf k = some (c, .fresh) ∧ c.running = true := by
  rw [Option.isSome_iff_exists]
  exact exists_congr fun _ => State.usableRow_iff

/-- A saturation run counts while the row is usable and saturated. -/
theorem State.satRun_counted (s : State) (k : Role) (run : Nat) :
    (∀ c, s.contribOf k = some (c, .fresh) ∧ c.running = true → c.saturated = true → s.satRun k run = min (run + 1) s.prm.nC) ∧
    ((∀ c, s.contribOf k = some (c, .fresh) ∧ c.running = true → c.saturated = false) → s.satRun k run = 0) := by
  unfold State.satRun
  refine ⟨fun c hc hsat => ?_, fun h => ?_⟩
  · rw [State.usableRow_iff.2 hc]
    exact if_pos hsat
  · split
    next c hc => exact if_neg fun hsat => Bool.false_ne_true ((h c (State.usableRow_iff.1 hc)).symm.trans hsat)
    next => rfl

/-! ## The coupling (R89) -/

/-- The coupling, by its four conditions. -/
theorem State.couplingActive_iff (s : State) (a b : Nat) : s.couplingActive a b = true ↔
    s.nsc.node.running = true ∧ s.prm.vCouple ≤ s.pvu.speed ∧
      ((s.usableRow .tiltA).isSome = true ∨ (s.usableRow .tiltB).isSome = true) ∧
      ((s.usableRow .tiltA).isSome = true → a = s.prm.nC) ∧ ((s.usableRow .tiltB).isSome = true → b = s.prm.nC) := by
  have himp (p : Bool) (n : Nat) : (!p || n == s.prm.nC) = true ↔ (p = true → n = s.prm.nC) := by
    cases p <;> simp
  rw [State.couplingActive]
  simp only [Bool.and_eq_true, himp, Bool.or_eq_true, decide_eq_true_eq, and_assoc]

/-- With a usable row there is a tilt lean. -/
theorem State.tiltLean_of_usable {s : State} (h : (s.usableRow .tiltA).isSome = true ∨ (s.usableRow .tiltB).isSome = true) :
    ∃ phi, s.tiltLean = some phi := by
  obtain ⟨hboth, ha, hb, _⟩ := meanFloor_two s.usableRow
  cases hA : s.usableRow .tiltA <;> cases hB : s.usableRow .tiltB
  case none.none => rw [hA, hB] at h; simp at h
  case none.some c => exact ⟨_, hb c hB hA⟩
  case some.none c => exact ⟨_, ha c hA hB⟩
  case some.some c d => exact ⟨_, hboth c d hA hB⟩

/-- The coupling term of an active coupling. -/
theorem State.couplingTerm_active {s : State} {phi : Int} (r : TargetRecord) (h : s.tiltLean = some phi) :
    s.couplingTerm r true = -(((s.prm.kC : Int) * (r.phiT - phi)).fdiv 256) := by
  unfold State.couplingTerm
  rw [h]

/-- The soft stop (R91). -/
theorem State.softStops_iff (s : State) (tau : Int) : s.softStops tau = true ↔ ∃ d, s.mu.records.angle.lastGood = some d ∧
    (((s.prm.deltaSoft : Int) ≤ d ∧ 0 < tau) ∨ (d ≤ -(s.prm.deltaSoft : Int) ∧ tau < 0)) := by
  unfold State.softStops
  cases s.mu.records.angle.lastGood <;> simp

theorem State.assistTerm_none {s : State} (h : s.mu.records.torque.lastGood = none) : s.assistTerm = 0 := by
  unfold State.assistTerm
  rw [h]

/-- Settles O23: the steps of an arrival at the SLU, each read off its definition. -/
theorem sluArrivalFormsSteerTorque : Obligations.SluArrivalFormsSteerTorque := by
  intro s r hsteer hlive
  let x := (s.sluStep r).1
  obtain ⟨hboth, honlyA, honlyB, hneither⟩ := meanFloor_two s.usableRow
  have hcoupling := s.couplingActive_iff x.runA x.runB
  have htauC : x.tauC = s.couplingTerm r x.coupling := rfl
  refine ⟨_, exec_newTargetArrivalSlu r hsteer hlive, rfl, fun tau h => ?_, State.assistTerm_none, ⟨s.satRun_counted .tiltA s.slu.runA,
    s.satRun_counted .tiltB s.slu.runB, fun a b ha hb => hboth a b (State.usableRow_iff.2 ha) (State.usableRow_iff.2 hb),
    fun a ha hb => honlyA a (State.usableRow_iff.2 ha) (State.usableRow_none hb),
    fun b hb ha => honlyB b (State.usableRow_iff.2 hb) (State.usableRow_none ha),
    fun ha hb => hneither (State.usableRow_none ha) (State.usableRow_none hb), ?_⟩, fun h => ?_, fun h => ?_, ?_, fun h => ?_,
    fun h => ?_, ?_, fun h => voteStep_holds h _ _ _, fun h => voteStep_fails h _ _ _, ?_, fun h => State.driveOf_running h _,
    fun h => State.driveOf_low h _, rfl⟩
  · show s.assistTerm = _
    unfold State.assistTerm
    rw [h]
    rfl
  · rw [← State.usableRow_isSome, ← State.usableRow_isSome]
    exact hcoupling
  · obtain ⟨_, _, husable, _⟩ := hcoupling.1 h
    obtain ⟨phi, hphi⟩ := State.tiltLean_of_usable husable
    rw [show x.coupling = true from h, State.couplingTerm_active r hphi] at htauC
    exact ⟨phi, hphi, htauC⟩
  · rw [show x.coupling = false from h] at htauC
    exact htauC
  · exact bne_iff_ne
  · exact if_pos h
  · exact if_neg fun hs => Bool.false_ne_true (h.symm.trans hs)
  · exact s.softStops_iff _
  · exact congrArg ((s.handed.erase (.newTargetArrivalSlu r)).filter (fun i => (sluChange i).isNone) ++ ·) (map_voteReport _ _ _ _)

/-! ## The node-state change and the RIDER fill (R93, R96, R97) -/

/-- A 16-bit field of a quantity that fits. -/
theorem fitHalf_toInt (free : Half) {x : Int} (h1 : -32768 ≤ x) (h2 : x ≤ 32767) : (fitHalf free x).toInt = x := by
  rw [fitHalf, if_pos ⟨h1, h2⟩]
  exact BitVec.toInt_ofInt_eq_self (by decide) h1 (Int.lt_of_le_of_lt h2 (by decide))

theorem fitHalf_zero (free : Half) : fitHalf free 0 = 0 := rfl

/-- A fill while the transmitter is on, as one update of the state. -/
theorem State.fill_on {s : State} (h : s.bi.tx ≠ .off) (k : FrameKind) (p : List Byte) : s.fill k p = { s with
    bi := { s.bi with slots := s.bi.slots.put k (some ⟨p, 0⟩), tx := if s.bi.tx = .idle then .waitGap else s.bi.tx } } := if_neg h

/-- A RIDER fill: the slot, and the own row's record stamped with the counter. -/
theorem State.fillRider_on {s : State} (h : s.bi.tx ≠ .off) (r : Rider) : s.fillRider r =
    { s.setRow s.cl.ownAddr.toNat { s.row s.cl.ownAddr.toNat with rider := some (r, s.clock) } with
      bi := { s.bi with slots := { s.bi.slots with rider := some ⟨r.toBytes, 0⟩ }
                        tx := if s.bi.tx = .idle then .waitGap else s.bi.tx }
      free := s.free + 2 } := by
  unfold State.fillRider
  rw [State.fill_on h]
  rfl

/-- A sweep notice fills the RIDER slot where the angle record has a value and is not FAILED (R96). -/
theorem State.riderStep_fills {s : State} {d : Int} (hlast : s.mu.records.angle.lastGood = some d)
    (hstate : s.mu.records.angle.state ≠ .failed) : s.riderStep = s.fillRider (s.riderFrame d) := by
  unfold State.riderStep
  rw [hlast]
  revert hstate
  cases s.mu.records.angle.state <;> simp

theorem State.riderStep_stays {s : State} (h : s.mu.records.angle.lastGood = none ∨ s.mu.records.angle.state = .failed) :
    s.riderStep = s := by
  unfold State.riderStep
  rcases h with h | h
  · rw [h]
    cases s.mu.records.angle.state <;> rfl
  · rw [h]

theorem recordCode_toNat (x : RecordState) : (BitVec.ofNat 4 (recordCode x)).toNat = recordCode x := by
  cases x <;> rfl

theorem State.addr_lt {a : Addr} (h : a ≠ 15) : a.toNat < 15 := by bv_omega

/-- Settles O24: the output low when running is left, and the RIDER slot with the own row that mirrors it. -/
theorem sluFollowsStateAndSweep : Obligations.SluFollowsStateAndSweep := by
  refine ⟨fun s old new hsteer => ?_, fun s n d hsteer hlive hon hown hlast hstate => ?_, fun s n hsteer hlive h => ?_⟩
  · have hdrive : driveChange old new s.drive = if old.running = true ∧ new.running = false then ⟨false, none⟩ else s.drive := by
      unfold driveChange
      cases old.running <;> cases new.running <;> rfl
    have hexec : exec (.nodeStateChangeSlu old new) s = .next { s with
        drive := driveChange old new s.drive, handed := s.handed.erase (.nodeStateChangeSlu old new) } :=
      congrArg Host.Outcome.next (if_pos hsteer)
    rw [hexec, hdrive]
  · let u := s.taken (.sweepNoticeSlu n)
    let c := u.riderFrame d
    have hstep : u.riderStep = u.fillRider c := State.riderStep_fills (s := u) hlast hstate
    have hexec : exec (.sweepNoticeSlu n) s = .next (u.fillRider c) :=
      congrArg Host.Outcome.next ((if_pos ⟨hsteer, hlive⟩).trans hstep)
    rw [State.fillRider_on (s := u) hon] at hexec
    refine ⟨_, c, hexec, fun h1 h2 => fitHalf_toInt _ h1 h2, fun h => ?_, fun tau hs ht h1 h2 => ?_, recordCode_toNat _,
      recordCode_toNat _, ?_, rfl, ?_, fun a ha => ?_, rfl⟩
    · refine (congrArg (fitHalf _) ?_).trans (fitHalf_zero (Config.freeHalf (u.free + 1)))
      rcases h with h | h
      · exact if_pos h
      · show (if s.mu.records.torque.state = .failed then (0 : Int) else s.mu.records.torque.lastGood.getD 0) = 0
        rw [h]
        split <;> rfl
    · refine (congrArg (fun x => (fitHalf (Config.freeHalf (u.free + 1)) x).toInt) ?_).trans (fitHalf_toInt _ h1 h2)
      show (if s.mu.records.torque.state = .failed then (0 : Int) else s.mu.records.torque.lastGood.getD 0) = tau
      rw [if_neg hs, ht]
      rfl
    · show (BitVec.ofNat 8 (nodeCode s.nsc.node)).toNat = nodeCode s.nsc.node
      cases s.nsc.node <;> rfl
    · exact State.row_setRow_self u _ (State.addr_lt hown)
    · exact State.row_setRow_ne u _ ha
  · have hstep := State.riderStep_stays (s := s.taken (.sweepNoticeSlu n)) h
    exact congrArg Host.Outcome.next ((if_pos ⟨hsteer, hlive⟩).trans hstep)

end Sys2Proof.Machine
end

section
/-! SUPPORT. The CONTRIB frame of an arrival, its fill and the own row that mirrors it (R59, R95, R122, R140, R151). -/

namespace Sys2Proof.Machine

/-! ## The fill (R151) -/

/-- A CONTRIB fill: the slot, and the own row's record stamped with the counter. -/
theorem State.fillContrib_on {s : State} (h : s.bi.tx ≠ .off) (c : Contrib) : s.fillContrib c =
    { s.setRow s.cl.ownAddr.toNat { s.row s.cl.ownAddr.toNat with contrib := some (c, s.clock) } with
      bi := { s.bi with slots := { s.bi.slots with contrib := some ⟨c.toBytes, 0⟩ }
                        tx := if s.bi.tx = .idle then .waitGap else s.bi.tx }
      free := s.free + 4 } := by
  unfold State.fillContrib
  rw [State.fill_on h]
  rfl

/-- An arrival that the NSC admits fills the slot and the own row. -/
theorem State.contribStep_admitted {s : State} (hon : s.bi.tx ≠ .off) (h : s.nsc.node ≠ .dormant ∨ 49 ≤ s.nsc.sendCount)
    (c : Contrib) : s.contribStep c =
      { s.setRow s.cl.ownAddr.toNat { s.row s.cl.ownAddr.toNat with contrib := some (c, s.clock) } with
        nsc := { s.nsc with sendCount := if s.nsc.node = .dormant then 0 else s.nsc.sendCount }
        bi := { s.bi with slots := { s.bi.slots with contrib := some ⟨c.toBytes, 0⟩ }
                          tx := if s.bi.tx = .idle then .waitGap else s.bi.tx }
        free := s.free + 4 } := by
  let u := s.setNsc { s.nsc with sendCount := if s.nsc.node = .dormant then 0 else s.nsc.sendCount }
  have hadmit : s.admitFill = (u, true) := by
    unfold State.admitFill
    by_cases hd : s.nsc.node = .dormant
    · have hcount : ¬s.nsc.sendCount + 1 < Config.dormantSend :=
        Nat.not_lt.2 (Nat.succ_le_succ (h.resolve_left fun hne => hne hd))
      simp only [u, if_pos hd, if_neg hcount]
      rfl
    · simp only [u, if_neg hd]
      rfl
  have hstep : s.contribStep c = u.fillContrib c := by
    rw [State.contribStep, hadmit]
    rfl
  rw [hstep, State.fillContrib_on (s := u) hon]
  rfl

/-- One that the NSC does not admit counts and does no more. -/
theorem State.contribStep_refused {s : State} (hd : s.nsc.node = .dormant) (h : s.nsc.sendCount < 49) (c : Contrib) :
    s.contribStep c = s.setNsc { s.nsc with sendCount := s.nsc.sendCount + 1 } := by
  have hcount : s.nsc.sendCount + 1 < Config.dormantSend := Nat.succ_lt_succ h
  unfold State.contribStep State.admitFill
  rw [if_pos hd, if_pos hcount]
  rfl

/-! ## The primary code (R140) -/

theorem allConditions_sorted : allConditions.Pairwise (fun a b => condCode a < condCode b) := by decide

/-- The primary code is the lowest code in the set. -/
theorem CondSet.primary_spec (x : CondSet) :
    (∀ d, x.has d = true → x.primary ≤ condCode d) ∧ ((∀ d, x.has d = false) → x.primary = 0) ∧
    ((∃ d, x.has d = true) → ∃ d, x.has d = true ∧ x.primary = condCode d) := by
  unfold CondSet.primary
  cases hf : allConditions.find? (fun c => x.has c)
  case none =>
    rw [List.find?_eq_none] at hf
    exact ⟨fun d hd => absurd hd (hf d (mem_allConditions d)), fun _ => rfl, fun ⟨d, hd⟩ => absurd hd (hf d (mem_allConditions d))⟩
  case some a =>
    obtain ⟨ha, front, back, hall, hfront⟩ := List.find?_eq_some_iff_append.1 hf
    refine ⟨fun d hd => ?_, fun h => absurd ha (by rw [h a]; exact Bool.false_ne_true), fun _ => ⟨a, ha, rfl⟩⟩
    have hmem := mem_allConditions d
    have hsorted := allConditions_sorted
    rw [hall] at hmem hsorted
    rcases List.mem_append.1 hmem with hd' | hd'
    · have hno := hfront d hd'
      rw [hd] at hno
      exact absurd hno (by decide)
    · rcases List.mem_cons.1 hd' with rfl | hd'
      · exact le_rfl
      · exact (List.rel_of_pairwise_cons (List.pairwise_append.1 hsorted).2.1 hd').le

theorem CondSet.primary_le (x : CondSet) : x.primary ≤ 14 := by
  by_cases h : ∃ d, x.has d = true
  · obtain ⟨_, _, hfound⟩ := x.primary_spec
    obtain ⟨d, _, hd⟩ := hfound h
    rw [hd]
    exact (condCode_range d).2
  · obtain ⟨_, hnone, _⟩ := x.primary_spec
    rw [hnone fun d => Bool.eq_false_iff.2 fun hd => h ⟨d, hd⟩]
    exact Nat.zero_le _

/-! ## The present set with the reports of the arrival (log entry 11) -/

/-- The report of a flag, made only where it has changed. -/
def changeReport (c : Condition) (before after : Bool) : List Report := if after = before then [] else [(c, after)]

theorem changeReport_eq (c : Condition) (before after : Bool) :
    (if after != before then [(c, after)] else [] : List Report) = changeReport c before after := by
  cases before <;> cases after <;> rfl

theorem CondSet.after_append (x : CondSet) (l m : List Report) : CondSet.after x (l ++ m) = CondSet.after (CondSet.after x l) m :=
  List.foldl_append

/-- Such a report applied to a present set. -/
theorem CondSet.after_changeReport (x : CondSet) (c d : Condition) (before after : Bool) :
    CondSet.has (CondSet.after x (changeReport c before after)) d = if d = c ∧ after ≠ before then after else x.has d := by
  unfold changeReport
  by_cases h : after = before
  · simp [h, CondSet.after]
  · simp [h, CondSet.after, CondSet.has_put]

/-- The reports of an arrival at the TSU and at the SLU. -/
theorem State.tsuReports_eq (u : State) (r : TargetRecord) : (u.tsuStep r).2 =
    changeReport .partnerAbsent u.tsu.partnerAbsent (u.tsuStep r).1.partnerAbsent ++
      changeReport .disagree u.tsu.disagree (u.tsuStep r).1.disagree ++
      changeReport .voteOutlier u.tsu.outlier (u.tsuStep r).1.outlier := by
  refine congrArg₂ (· ++ ·) (congrArg₂ (· ++ ·) (changeReport_eq _ _ _) (changeReport_eq _ _ _)) ?_
  exact voteStep_report _ _ _ _

theorem State.sluReports_eq (u : State) (r : TargetRecord) :
    (u.sluStep r).2 = changeReport .voteOutlier u.slu.outlier (u.sluStep r).1.outlier :=
  voteStep_report _ _ _ _

/-! ## The frame (R59, R95) -/

/-- A number that fits a field is read back. -/
theorem ofNat_toNat {w n : Nat} (h : n < 2 ^ w) : (BitVec.ofNat w n).toNat = n := by
  rw [BitVec.toNat_ofNat, Nat.mod_eq_of_lt h]

theorem nodeCode_lt (x : NodeState) : nodeCode x < 16 := by cases x <;> decide
theorem roleCode_lt (x : Role) : roleCode x < 16 := by cases x <;> decide
theorem refusalCode_lt (x : RefusalReason) : refusalCode x < 16 := by cases x <;> decide
theorem speedCode_lt (x : SpeedStatus) : speedCode x < 4 := by cases x <;> decide
theorem switchCode_lt (x : Switch) : switchCode x < 4 := by cases x <;> decide

/-- The fields that both roles' frames have in common. -/
theorem State.contribFrame_fields (s : State) (r : TargetRecord) (reports : List Report) (phiM tau share : Int) (w : Nat)
    (saturated driver : Bool) (switch : BitVec 2) (ramping : Bool) :
    let c := s.contribFrame r reports phiM tau share w saturated driver switch ramping
    c.nodeState.toNat = nodeCode s.nsc.node ∧ c.role.toNat = roleCode s.role ∧
      (∀ d, CondSet.has c.present d = true → c.primary.toNat ≤ condCode d) ∧
      ((∀ d, CondSet.has c.present d = false) → c.primary = 0) ∧
      ((∃ d, CondSet.has c.present d = true) → ∃ d, CondSet.has c.present d = true ∧ c.primary.toNat = condCode d) ∧
      (r.depth ≤ 4 → c.depth.toNat = r.depth) ∧
      c.refusal.toNat = refusalCode r.refusal ∧ c.speedStatus.toNat = speedCode s.pvu.speedStatus ∧
      (∀ v, s.mu.wheelSpeed = some v → v ≤ 2500 → c.pulse.toNat = v) ∧ (s.mu.wheelSpeed = none → c.pulse = 0xFFFF) ∧
      (c.dormantReady = true ↔ s.nsc.dormantDwell.isSome = true ∨ s.nsc.node = .dormant) ∧
      (w ≤ 100 → c.w.toNat = w) := by
  intro c
  have hprimary : c.primary.toNat = CondSet.primary c.present := ofNat_toNat ((CondSet.primary_le _).trans_lt (by decide))
  obtain ⟨hleast, hzero, hfound⟩ := CondSet.primary_spec c.present
  rw [← hprimary] at hleast hzero hfound
  refine ⟨ofNat_toNat (nodeCode_lt _), ofNat_toNat (roleCode_lt _), hleast, fun h => BitVec.eq_of_toNat_eq (hzero h), hfound,
    fun h => ofNat_toNat (h.trans_lt (by decide)), ofNat_toNat (refusalCode_lt _), ofNat_toNat (speedCode_lt _), fun v hv hle => ?_,
    fun h => ?_, ?_, fun h => ofNat_toNat (h.trans_lt (by decide))⟩
  · show s.pulseField.toNat = v
    rw [State.pulseField, hv]
    exact ofNat_toNat (hle.trans_lt (by decide))
  · show s.pulseField = 0xFFFF
    rw [State.pulseField, h]
  · exact (Bool.or_eq_true _ _).to_iff.trans (or_congr_right beq_iff_eq)

/-- The present set of a tilt role's frame. -/
theorem State.tsuPresent (u : State) (r : TargetRecord) (x : CondSet) (d : Condition) :
    let y := (u.tsuStep r).1
    CondSet.has (CondSet.after x (u.tsuStep r).2) d =
      if d = .partnerAbsent ∧ y.partnerAbsent ≠ u.tsu.partnerAbsent then y.partnerAbsent
      else if d = .disagree ∧ y.disagree ≠ u.tsu.disagree then y.disagree
      else if d = .voteOutlier ∧ y.outlier ≠ u.tsu.outlier then y.outlier
      else x.has d := by
  intro y
  rw [State.tsuReports_eq, CondSet.after_append, CondSet.after_append, CondSet.after_changeReport, CondSet.after_changeReport,
    CondSet.after_changeReport]
  cases d <;> simp [y]

/-- Settles O21: the fill by the NSC's admission, the own row, and the frame of either role. -/
theorem arrivalFillsContribWhenAdmitted : Obligations.ArrivalFillsContribWhenAdmitted := by
  intro s r cmd hlive hon hown hcmd
  have hlt := State.addr_lt hown
  rcases hcmd with ⟨hsteer, rfl⟩ | ⟨htilt, rfl⟩
  · let u := s.readySlu r
    let q := u.sluStep r
    let v : State := { u with slu := q.1, drive := u.driveOf (dutyOf q.1.tauS u.prm.tauSMax) }
    let w := v.handReports q.2
    let c := v.steerContrib r q.2
    have hexec : exec (.newTargetArrivalSlu r) s = .next (w.contribStep c) := congrArg Host.Outcome.next (if_pos ⟨hsteer, hlive⟩)
    have hno : s.role.isTilt = false := by rw [hsteer]; rfl
    have hnot : ¬s.role.isTilt = true := fun h => Bool.false_ne_true (hno.symm.trans h)
    by_cases h : s.nsc.node ≠ .dormant ∨ 49 ≤ s.nsc.sendCount
    · rw [State.contribStep_admitted (s := w) hon h] at hexec
      obtain ⟨hnode, hrole, hleast, hzero, hfound, hdepth, hrefusal, hspeed, hpulse, hwired, hready, hw⟩ :=
        v.contribFrame_fields r q.2 (v.measured.getD 0) q.1.tauS q.1.tauC (if s.nsc.node.running then 100 else 0) q.1.saturated
          false 0 false
      refine ⟨_, hexec, fun _ => ⟨c, rfl, congrArg Row.contrib (State.row_setRow_self w _ hlt),
        fun a ha => State.row_setRow_ne w _ ha, rfl, hnode, hrole, ⟨fun h1 h2 => fitHalf_toInt _ h1 h2,
          fun _ => ⟨fun h1 h2 => fitHalf_toInt _ h1 h2, fun h1 h2 => fitHalf_toInt _ h1 h2, fun h1 h2 => fitHalf_toInt _ h1 h2⟩,
          fun ht => absurd ht hnot⟩, fun d => ?_, hleast, hzero, hfound, hdepth, hrefusal, hspeed, hpulse, hwired, hready,
        fun _ => ⟨rfl, rfl, rfl, rfl, hw ?_⟩, fun ht => absurd ht hnot, fun hd => if_pos hd⟩,
        fun hd hl => absurd h (not_or.2 ⟨not_not.2 hd, Nat.not_le.2 hl⟩)⟩
      · have hhas : CondSet.has c.present d = if d = .voteOutlier ∧ q.1.outlier ≠ s.slu.outlier then q.1.outlier
            else s.nsc.present.has d := by
          show CondSet.has (CondSet.after s.nsc.present q.2) d = _
          rw [show q.2 = _ from u.sluReports_eq r, CondSet.after_changeReport]
          rfl
        rw [if_neg fun hf => hnot hf.1, if_neg fun hf => hnot hf.1, if_neg fun hf => hnot hf.1]
        exact hhas.trans (if_congr (and_iff_right hsteer).symm rfl rfl)
      · split <;> decide
    · obtain ⟨hd, hl⟩ := not_or.1 h
      rw [State.contribStep_refused (s := w) (not_not.1 hd) (Nat.not_le.1 hl)] at hexec
      exact ⟨_, hexec, fun hf => absurd hf h, fun _ _ => ⟨rfl, rfl, rfl⟩⟩
  · let u := s.readyTsu r
    let q := u.tsuStep r
    let v : State := { u with tsu := q.1, drive := u.driveOf (dutyOf q.1.tauO u.prm.tRated) }
    let w := v.handReports q.2
    let c := v.tiltContrib r q.2
    have hexec : exec (.newTargetArrivalTsu r) s = .next (w.contribStep c) :=
      congrArg Host.Outcome.next (if_pos ((Bool.and_eq_true _ _).mpr ⟨htilt, hlive⟩))
    have hnot : s.role ≠ .steer := by
      intro hs
      rw [hs] at htilt
      exact Bool.false_ne_true htilt
    by_cases h : s.nsc.node ≠ .dormant ∨ 49 ≤ s.nsc.sendCount
    · rw [State.contribStep_admitted (s := w) hon h] at hexec
      obtain ⟨hnode, hrole, hleast, hzero, hfound, hdepth, hrefusal, hspeed, hpulse, hwired, hready, hw⟩ :=
        v.contribFrame_fields r q.2 (v.mu.records.shaft.lastGood.getD 0) q.1.tauD q.1.share q.1.w q.1.saturated v.bcu.driver
          (BitVec.ofNat 2 (switchCode v.bcu.switch)) (match q.1.ramp with | .running _ => true | _ => false)
      refine ⟨_, hexec, fun _ => ⟨c, rfl, congrArg Row.contrib (State.row_setRow_self w _ hlt),
        fun a ha => State.row_setRow_ne w _ ha, rfl, hnode, hrole, ⟨fun h1 h2 => fitHalf_toInt _ h1 h2,
          fun hs => absurd hs hnot, fun _ => ⟨fun h1 h2 => fitHalf_toInt _ h1 h2, fun h1 h2 => fitHalf_toInt _ h1 h2,
            fun h1 h2 => fitHalf_toInt _ h1 h2⟩⟩, fun d => ?_, hleast, hzero, hfound, hdepth, hrefusal, hspeed, hpulse, hwired,
        hready, fun hs => absurd hs hnot, fun _ => ⟨rfl, ofNat_toNat (switchCode_lt _), rfl, hw, ?_⟩, fun hd => if_pos hd⟩,
        fun hd hl => absurd h (not_or.2 ⟨not_not.2 hd, Nat.not_le.2 hl⟩)⟩
      · refine (u.tsuPresent r s.nsc.present d).trans ?_
        refine if_congr (and_iff_right htilt).symm rfl (if_congr (and_iff_right htilt).symm rfl
          (if_congr (and_iff_right htilt).symm rfl ?_))
        exact (if_neg fun hf => hnot hf.1).symm
      · show (match q.1.ramp with | .running _ => true | _ => false) = true ↔ ∃ st, q.1.ramp = .running st
        cases q.1.ramp <;> simp
    · obtain ⟨hd, hl⟩ := not_or.1 h
      rw [State.contribStep_refused (s := w) (not_not.1 hd) (Nat.not_le.1 hl)] at hexec
      exact ⟨_, hexec, fun hf => absurd hf h, fun _ _ => ⟨rfl, rfl, rfl⟩⟩

end Sys2Proof.Machine
end
